-- ==== Sys2Proof/Word.lean ====
section
/-! DEFINITION. The machine's words: bytes, halfwords, 32-bit words and register numbers (00_scope R7). -/

namespace Sys2Proof

/-- A byte of the bus (20_memory R76). -/
abbrev Byte := BitVec 8

/-- A halfword: a narrow instruction, a 16-bit bus access (20_memory R72). -/
abbrev Half := BitVec 16

/-- A 32-bit word: a register, an address, a wide instruction (10_state R20, 20_memory R76). -/
abbrev Word := BitVec 32

/-- A 4-bit register field: r0 to r15 (10_state R25). -/
abbrev Reg := BitVec 4

/-- A 3-bit register field of a narrow instruction: r0 to r7 (30_encoding R125). -/
abbrev LoReg := BitVec 3

end Sys2Proof
end

