-- ==== Sys2Proof/Syntax.lean ====
section
/-! DEFINITION. The instructions: one constructor per row of spec/opcode_table.json, in the table's order, each with
every field the row has, high bits first. Ignored fields (30_encoding R139) are kept under the names `sbz`, `comment`,
`xHi`, `xLo`, so that no bit of an encoding is dropped. -/

namespace Sys2Proof

/-- The sixteen conditions, in the order of their codes (40 R160). -/
inductive Cond where
  | eq | ne | cs | cc | mi | pl | vs | vc | hi | ls | ge | lt | gt | le | al | nv
  deriving DecidableEq, Repr

/-- The four shift types, in the order of their codes (30_encoding R117). -/
inductive Shift where
  | lsl | lsr | asr | ror
  deriving DecidableEq, Repr

/-- The instruction set (30_encoding R114, R125). A 1-bit field is a Bool (true for 1); `c` is the condition,
`s` the S bit, `p`, `u`, `w` the P, U and W bits. -/
inductive Instr where
  /-- `AND.imm`, format A_DP_IMM (R200). -/
  | andImm (c : Cond) (s : Bool) (rn rd : Reg) (rot : BitVec 4) (imm8 : BitVec 8)
  /-- `AND.reg_is`, format A_DP_REG_IS (R200). -/
  | andRegIs (c : Cond) (s : Bool) (rn rd : Reg) (shamt : BitVec 5) (sh : Shift) (rm : Reg)
  /-- `AND.reg_rs`, format A_DP_REG_RS (R200). -/
  | andRegRs (c : Cond) (s : Bool) (rn rd rs : Reg) (sh : Shift) (rm : Reg)
  /-- `EOR.imm`, format A_DP_IMM (R201). -/
  | eorImm (c : Cond) (s : Bool) (rn rd : Reg) (rot : BitVec 4) (imm8 : BitVec 8)
  /-- `EOR.reg_is`, format A_DP_REG_IS (R201). -/
  | eorRegIs (c : Cond) (s : Bool) (rn rd : Reg) (shamt : BitVec 5) (sh : Shift) (rm : Reg)
  /-- `EOR.reg_rs`, format A_DP_REG_RS (R201). -/
  | eorRegRs (c : Cond) (s : Bool) (rn rd rs : Reg) (sh : Shift) (rm : Reg)
  /-- `SUB.imm`, format A_DP_IMM (R202). -/
  | subImm (c : Cond) (s : Bool) (rn rd : Reg) (rot : BitVec 4) (imm8 : BitVec 8)
  /-- `SUB.reg_is`, format A_DP_REG_IS (R202). -/
  | subRegIs (c : Cond) (s : Bool) (rn rd : Reg) (shamt : BitVec 5) (sh : Shift) (rm : Reg)
  /-- `SUB.reg_rs`, format A_DP_REG_RS (R202). -/
  | subRegRs (c : Cond) (s : Bool) (rn rd rs : Reg) (sh : Shift) (rm : Reg)
  /-- `RSB.imm`, format A_DP_IMM (R203). -/
  | rsbImm (c : Cond) (s : Bool) (rn rd : Reg) (rot : BitVec 4) (imm8 : BitVec 8)
  /-- `RSB.reg_is`, format A_DP_REG_IS (R203). -/
  | rsbRegIs (c : Cond) (s : Bool) (rn rd : Reg) (shamt : BitVec 5) (sh : Shift) (rm : Reg)
  /-- `RSB.reg_rs`, format A_DP_REG_RS (R203). -/
  | rsbRegRs (c : Cond) (s : Bool) (rn rd rs : Reg) (sh : Shift) (rm : Reg)
  /-- `ADD.imm`, format A_DP_IMM (R204). -/
  | addImm (c : Cond) (s : Bool) (rn rd : Reg) (rot : BitVec 4) (imm8 : BitVec 8)
  /-- `ADD.reg_is`, format A_DP_REG_IS (R204). -/
  | addRegIs (c : Cond) (s : Bool) (rn rd : Reg) (shamt : BitVec 5) (sh : Shift) (rm : Reg)
  /-- `ADD.reg_rs`, format A_DP_REG_RS (R204). -/
  | addRegRs (c : Cond) (s : Bool) (rn rd rs : Reg) (sh : Shift) (rm : Reg)
  /-- `ADC.imm`, format A_DP_IMM (R205). -/
  | adcImm (c : Cond) (s : Bool) (rn rd : Reg) (rot : BitVec 4) (imm8 : BitVec 8)
  /-- `ADC.reg_is`, format A_DP_REG_IS (R205). -/
  | adcRegIs (c : Cond) (s : Bool) (rn rd : Reg) (shamt : BitVec 5) (sh : Shift) (rm : Reg)
  /-- `ADC.reg_rs`, format A_DP_REG_RS (R205). -/
  | adcRegRs (c : Cond) (s : Bool) (rn rd rs : Reg) (sh : Shift) (rm : Reg)
  /-- `SBC.imm`, format A_DP_IMM (R206). -/
  | sbcImm (c : Cond) (s : Bool) (rn rd : Reg) (rot : BitVec 4) (imm8 : BitVec 8)
  /-- `SBC.reg_is`, format A_DP_REG_IS (R206). -/
  | sbcRegIs (c : Cond) (s : Bool) (rn rd : Reg) (shamt : BitVec 5) (sh : Shift) (rm : Reg)
  /-- `SBC.reg_rs`, format A_DP_REG_RS (R206). -/
  | sbcRegRs (c : Cond) (s : Bool) (rn rd rs : Reg) (sh : Shift) (rm : Reg)
  /-- `RSC.imm`, format A_DP_IMM (R207). -/
  | rscImm (c : Cond) (s : Bool) (rn rd : Reg) (rot : BitVec 4) (imm8 : BitVec 8)
  /-- `RSC.reg_is`, format A_DP_REG_IS (R207). -/
  | rscRegIs (c : Cond) (s : Bool) (rn rd : Reg) (shamt : BitVec 5) (sh : Shift) (rm : Reg)
  /-- `RSC.reg_rs`, format A_DP_REG_RS (R207). -/
  | rscRegRs (c : Cond) (s : Bool) (rn rd rs : Reg) (sh : Shift) (rm : Reg)
  /-- `TST.imm`, format A_DP_IMM (R208). -/
  | tstImm (c : Cond) (rn : Reg) (sbz rot : BitVec 4) (imm8 : BitVec 8)
  /-- `TST.reg_is`, format A_DP_REG_IS (R208). -/
  | tstRegIs (c : Cond) (rn : Reg) (sbz : BitVec 4) (shamt : BitVec 5) (sh : Shift) (rm : Reg)
  /-- `TST.reg_rs`, format A_DP_REG_RS (R208). -/
  | tstRegRs (c : Cond) (rn : Reg) (sbz : BitVec 4) (rs : Reg) (sh : Shift) (rm : Reg)
  /-- `TEQ.imm`, format A_DP_IMM (R209). -/
  | teqImm (c : Cond) (rn : Reg) (sbz rot : BitVec 4) (imm8 : BitVec 8)
  /-- `TEQ.reg_is`, format A_DP_REG_IS (R209). -/
  | teqRegIs (c : Cond) (rn : Reg) (sbz : BitVec 4) (shamt : BitVec 5) (sh : Shift) (rm : Reg)
  /-- `TEQ.reg_rs`, format A_DP_REG_RS (R209). -/
  | teqRegRs (c : Cond) (rn : Reg) (sbz : BitVec 4) (rs : Reg) (sh : Shift) (rm : Reg)
  /-- `CMP.imm`, format A_DP_IMM (R210). -/
  | cmpImm (c : Cond) (rn : Reg) (sbz rot : BitVec 4) (imm8 : BitVec 8)
  /-- `CMP.reg_is`, format A_DP_REG_IS (R210). -/
  | cmpRegIs (c : Cond) (rn : Reg) (sbz : BitVec 4) (shamt : BitVec 5) (sh : Shift) (rm : Reg)
  /-- `CMP.reg_rs`, format A_DP_REG_RS (R210). -/
  | cmpRegRs (c : Cond) (rn : Reg) (sbz : BitVec 4) (rs : Reg) (sh : Shift) (rm : Reg)
  /-- `CMN.imm`, format A_DP_IMM (R211). -/
  | cmnImm (c : Cond) (rn : Reg) (sbz rot : BitVec 4) (imm8 : BitVec 8)
  /-- `CMN.reg_is`, format A_DP_REG_IS (R211). -/
  | cmnRegIs (c : Cond) (rn : Reg) (sbz : BitVec 4) (shamt : BitVec 5) (sh : Shift) (rm : Reg)
  /-- `CMN.reg_rs`, format A_DP_REG_RS (R211). -/
  | cmnRegRs (c : Cond) (rn : Reg) (sbz : BitVec 4) (rs : Reg) (sh : Shift) (rm : Reg)
  /-- `ORR.imm`, format A_DP_IMM (R212). -/
  | orrImm (c : Cond) (s : Bool) (rn rd : Reg) (rot : BitVec 4) (imm8 : BitVec 8)
  /-- `ORR.reg_is`, format A_DP_REG_IS (R212). -/
  | orrRegIs (c : Cond) (s : Bool) (rn rd : Reg) (shamt : BitVec 5) (sh : Shift) (rm : Reg)
  /-- `ORR.reg_rs`, format A_DP_REG_RS (R212). -/
  | orrRegRs (c : Cond) (s : Bool) (rn rd rs : Reg) (sh : Shift) (rm : Reg)
  /-- `MOV.imm`, format A_DP_IMM (R213). -/
  | movImm (c : Cond) (s : Bool) (sbz : BitVec 4) (rd : Reg) (rot : BitVec 4) (imm8 : BitVec 8)
  /-- `MOV.reg_is`, format A_DP_REG_IS (R213). -/
  | movRegIs (c : Cond) (s : Bool) (sbz : BitVec 4) (rd : Reg) (shamt : BitVec 5) (sh : Shift) (rm : Reg)
  /-- `MOV.reg_rs`, format A_DP_REG_RS (R213). -/
  | movRegRs (c : Cond) (s : Bool) (sbz : BitVec 4) (rd rs : Reg) (sh : Shift) (rm : Reg)
  /-- `BIC.imm`, format A_DP_IMM (R214). -/
  | bicImm (c : Cond) (s : Bool) (rn rd : Reg) (rot : BitVec 4) (imm8 : BitVec 8)
  /-- `BIC.reg_is`, format A_DP_REG_IS (R214). -/
  | bicRegIs (c : Cond) (s : Bool) (rn rd : Reg) (shamt : BitVec 5) (sh : Shift) (rm : Reg)
  /-- `BIC.reg_rs`, format A_DP_REG_RS (R214). -/
  | bicRegRs (c : Cond) (s : Bool) (rn rd rs : Reg) (sh : Shift) (rm : Reg)
  /-- `MVN.imm`, format A_DP_IMM (R215). -/
  | mvnImm (c : Cond) (s : Bool) (sbz : BitVec 4) (rd : Reg) (rot : BitVec 4) (imm8 : BitVec 8)
  /-- `MVN.reg_is`, format A_DP_REG_IS (R215). -/
  | mvnRegIs (c : Cond) (s : Bool) (sbz : BitVec 4) (rd : Reg) (shamt : BitVec 5) (sh : Shift) (rm : Reg)
  /-- `MVN.reg_rs`, format A_DP_REG_RS (R215). -/
  | mvnRegRs (c : Cond) (s : Bool) (sbz : BitVec 4) (rd rs : Reg) (sh : Shift) (rm : Reg)
  /-- `MRS.cpsr`, format A_MRS (R290). -/
  | mrsCpsr (c : Cond) (rd : Reg)
  /-- `MRS.spsr`, format A_MRS (R290). -/
  | mrsSpsr (c : Cond) (rd : Reg)
  /-- `MSR.reg.cpsr`, format A_MSR_REG (R292). -/
  | msrRegCpsr (c : Cond) (fmask : BitVec 4) (rm : Reg)
  /-- `MSR.reg.spsr`, format A_MSR_REG (R292). -/
  | msrRegSpsr (c : Cond) (fmask : BitVec 4) (rm : Reg)
  /-- `MSR.imm.cpsr`, format A_MSR_IMM (R292). -/
  | msrImmCpsr (c : Cond) (fmask rot : BitVec 4) (imm8 : BitVec 8)
  /-- `MSR.imm.spsr`, format A_MSR_IMM (R292). -/
  | msrImmSpsr (c : Cond) (fmask rot : BitVec 4) (imm8 : BitVec 8)
  /-- `MUL`, format A_MUL (R231). -/
  | mul (c : Cond) (s : Bool) (rd : Reg) (sbz : BitVec 4) (rs rm : Reg)
  /-- `MLA`, format A_MUL (R232). -/
  | mla (c : Cond) (s : Bool) (rd rn rs rm : Reg)
  /-- `UMULL`, format A_MULL (R233). -/
  | umull (c : Cond) (s : Bool) (rdHi rdLo rs rm : Reg)
  /-- `UMLAL`, format A_MULL (R234). -/
  | umlal (c : Cond) (s : Bool) (rdHi rdLo rs rm : Reg)
  /-- `SMULL`, format A_MULL (R235). -/
  | smull (c : Cond) (s : Bool) (rdHi rdLo rs rm : Reg)
  /-- `SMLAL`, format A_MULL (R236). -/
  | smlal (c : Cond) (s : Bool) (rdHi rdLo rs rm : Reg)
  /-- `SWP`, format A_SWP (R284). -/
  | swp (c : Cond) (rn rd rm : Reg)
  /-- `SWPB`, format A_SWP (R285). -/
  | swpb (c : Cond) (rn rd rm : Reg)
  /-- `BX`, format A_BX (R184). -/
  | bx (c : Cond) (rm : Reg)
  /-- `STRH.reg`, format A_HW_REG (R252). -/
  | strhReg (c : Cond) (p u w : Bool) (rn rd rm : Reg)
  /-- `STRH.imm`, format A_HW_IMM (R252). -/
  | strhImm (c : Cond) (p u w : Bool) (rn rd : Reg) (immH immL : BitVec 4)
  /-- `LDRH.reg`, format A_HW_REG (R251). -/
  | ldrhReg (c : Cond) (p u w : Bool) (rn rd rm : Reg)
  /-- `LDRH.imm`, format A_HW_IMM (R251). -/
  | ldrhImm (c : Cond) (p u w : Bool) (rn rd : Reg) (immH immL : BitVec 4)
  /-- `LDRSB.reg`, format A_HW_REG (R253). -/
  | ldrsbReg (c : Cond) (p u w : Bool) (rn rd rm : Reg)
  /-- `LDRSB.imm`, format A_HW_IMM (R253). -/
  | ldrsbImm (c : Cond) (p u w : Bool) (rn rd : Reg) (immH immL : BitVec 4)
  /-- `LDRSH.reg`, format A_HW_REG (R254). -/
  | ldrshReg (c : Cond) (p u w : Bool) (rn rd rm : Reg)
  /-- `LDRSH.imm`, format A_HW_IMM (R254). -/
  | ldrshImm (c : Cond) (p u w : Bool) (rn rd : Reg) (immH immL : BitVec 4)
  /-- `STR.imm.pre`, format A_SDT_IMM (R243). -/
  | strImmPre (c : Cond) (u w : Bool) (rn rd : Reg) (imm12 : BitVec 12)
  /-- `STR.imm.post`, format A_SDT_IMM (R243). -/
  | strImmPost (c : Cond) (u : Bool) (rn rd : Reg) (imm12 : BitVec 12)
  /-- `STR.reg.pre`, format A_SDT_REG (R243). -/
  | strRegPre (c : Cond) (u w : Bool) (rn rd : Reg) (shamt : BitVec 5) (sh : Shift) (rm : Reg)
  /-- `STR.reg.post`, format A_SDT_REG (R243). -/
  | strRegPost (c : Cond) (u : Bool) (rn rd : Reg) (shamt : BitVec 5) (sh : Shift) (rm : Reg)
  /-- `STRT.imm`, format A_SDT_IMM (R248). -/
  | strtImm (c : Cond) (u : Bool) (rn rd : Reg) (imm12 : BitVec 12)
  /-- `STRT.reg`, format A_SDT_REG (R248). -/
  | strtReg (c : Cond) (u : Bool) (rn rd : Reg) (shamt : BitVec 5) (sh : Shift) (rm : Reg)
  /-- `LDR.imm.pre`, format A_SDT_IMM (R242). -/
  | ldrImmPre (c : Cond) (u w : Bool) (rn rd : Reg) (imm12 : BitVec 12)
  /-- `LDR.imm.post`, format A_SDT_IMM (R242). -/
  | ldrImmPost (c : Cond) (u : Bool) (rn rd : Reg) (imm12 : BitVec 12)
  /-- `LDR.reg.pre`, format A_SDT_REG (R242). -/
  | ldrRegPre (c : Cond) (u w : Bool) (rn rd : Reg) (shamt : BitVec 5) (sh : Shift) (rm : Reg)
  /-- `LDR.reg.post`, format A_SDT_REG (R242). -/
  | ldrRegPost (c : Cond) (u : Bool) (rn rd : Reg) (shamt : BitVec 5) (sh : Shift) (rm : Reg)
  /-- `LDRT.imm`, format A_SDT_IMM (R248). -/
  | ldrtImm (c : Cond) (u : Bool) (rn rd : Reg) (imm12 : BitVec 12)
  /-- `LDRT.reg`, format A_SDT_REG (R248). -/
  | ldrtReg (c : Cond) (u : Bool) (rn rd : Reg) (shamt : BitVec 5) (sh : Shift) (rm : Reg)
  /-- `STRB.imm.pre`, format A_SDT_IMM (R245). -/
  | strbImmPre (c : Cond) (u w : Bool) (rn rd : Reg) (imm12 : BitVec 12)
  /-- `STRB.imm.post`, format A_SDT_IMM (R245). -/
  | strbImmPost (c : Cond) (u : Bool) (rn rd : Reg) (imm12 : BitVec 12)
  /-- `STRB.reg.pre`, format A_SDT_REG (R245). -/
  | strbRegPre (c : Cond) (u w : Bool) (rn rd : Reg) (shamt : BitVec 5) (sh : Shift) (rm : Reg)
  /-- `STRB.reg.post`, format A_SDT_REG (R245). -/
  | strbRegPost (c : Cond) (u : Bool) (rn rd : Reg) (shamt : BitVec 5) (sh : Shift) (rm : Reg)
  /-- `STRBT.imm`, format A_SDT_IMM (R248). -/
  | strbtImm (c : Cond) (u : Bool) (rn rd : Reg) (imm12 : BitVec 12)
  /-- `STRBT.reg`, format A_SDT_REG (R248). -/
  | strbtReg (c : Cond) (u : Bool) (rn rd : Reg) (shamt : BitVec 5) (sh : Shift) (rm : Reg)
  /-- `LDRB.imm.pre`, format A_SDT_IMM (R244). -/
  | ldrbImmPre (c : Cond) (u w : Bool) (rn rd : Reg) (imm12 : BitVec 12)
  /-- `LDRB.imm.post`, format A_SDT_IMM (R244). -/
  | ldrbImmPost (c : Cond) (u : Bool) (rn rd : Reg) (imm12 : BitVec 12)
  /-- `LDRB.reg.pre`, format A_SDT_REG (R244). -/
  | ldrbRegPre (c : Cond) (u w : Bool) (rn rd : Reg) (shamt : BitVec 5) (sh : Shift) (rm : Reg)
  /-- `LDRB.reg.post`, format A_SDT_REG (R244). -/
  | ldrbRegPost (c : Cond) (u : Bool) (rn rd : Reg) (shamt : BitVec 5) (sh : Shift) (rm : Reg)
  /-- `LDRBT.imm`, format A_SDT_IMM (R248). -/
  | ldrbtImm (c : Cond) (u : Bool) (rn rd : Reg) (imm12 : BitVec 12)
  /-- `LDRBT.reg`, format A_SDT_REG (R248). -/
  | ldrbtReg (c : Cond) (u : Bool) (rn rd : Reg) (shamt : BitVec 5) (sh : Shift) (rm : Reg)
  /-- `UND`, format A_UND (R296). -/
  | und (c : Cond) (xHi : BitVec 20) (xLo : BitVec 4)
  /-- `STM`, format A_BDT (R274). -/
  | stm (c : Cond) (p u w : Bool) (rn : Reg) (rlist : BitVec 16)
  /-- `LDM`, format A_BDT (R273). -/
  | ldm (c : Cond) (p u w : Bool) (rn : Reg) (rlist : BitVec 16)
  /-- `STM.user`, format A_BDT (R276). -/
  | stmUser (c : Cond) (p u w : Bool) (rn : Reg) (rlist : BitVec 16)
  /-- `LDM.user`, format A_BDT (R276). -/
  | ldmUser (c : Cond) (p u w : Bool) (rn : Reg) (rlist : BitVec 15)
  /-- `LDM.cpsr`, format A_BDT (R277). -/
  | ldmCpsr (c : Cond) (p u w : Bool) (rn : Reg) (rlist : BitVec 15)
  /-- `B`, format A_B (R180). -/
  | b (c : Cond) (imm24 : BitVec 24)
  /-- `BL`, format A_B (R181). -/
  | bl (c : Cond) (imm24 : BitVec 24)
  /-- `STC`, format A_CDT (R299). -/
  | stc (c : Cond) (p u n w : Bool) (rn : Reg) (crd cp : BitVec 4) (offset8 : BitVec 8)
  /-- `LDC`, format A_CDT (R298). -/
  | ldc (c : Cond) (p u n w : Bool) (rn : Reg) (crd cp : BitVec 4) (offset8 : BitVec 8)
  /-- `CDP`, format A_CDO (R297). -/
  | cdp (c : Cond) (op1 crn crd cp : BitVec 4) (op2 : BitVec 3) (crm : BitVec 4)
  /-- `MCR`, format A_CRT (R300). -/
  | mcr (c : Cond) (op1 : BitVec 3) (crn : BitVec 4) (rd : Reg) (cp : BitVec 4) (op2 : BitVec 3) (crm : BitVec 4)
  /-- `MRC`, format A_CRT (R301). -/
  | mrc (c : Cond) (op1 : BitVec 3) (crn : BitVec 4) (rd : Reg) (cp : BitVec 4) (op2 : BitVec 3) (crm : BitVec 4)
  /-- `SWI`, format A_SWI (R294). -/
  | swi (c : Cond) (comment : BitVec 24)
  /-- `T.LSL.imm`, format T1 (R311). -/
  | tLslImm (imm5 : BitVec 5) (rs rd : LoReg)
  /-- `T.LSR.imm`, format T1 (R312). -/
  | tLsrImm (imm5 : BitVec 5) (rs rd : LoReg)
  /-- `T.ASR.imm`, format T1 (R313). -/
  | tAsrImm (imm5 : BitVec 5) (rs rd : LoReg)
  /-- `T.ADD.reg`, format T2 (R315). -/
  | tAddReg (rn rs rd : LoReg)
  /-- `T.SUB.reg`, format T2 (R316). -/
  | tSubReg (rn rs rd : LoReg)
  /-- `T.ADD.imm3`, format T2 (R317). -/
  | tAddImm3 (imm3 : BitVec 3) (rs rd : LoReg)
  /-- `T.SUB.imm3`, format T2 (R318). -/
  | tSubImm3 (imm3 : BitVec 3) (rs rd : LoReg)
  /-- `T.MOV.imm8`, format T3 (R320). -/
  | tMovImm8 (rd : LoReg) (imm8 : BitVec 8)
  /-- `T.CMP.imm8`, format T3 (R321). -/
  | tCmpImm8 (rd : LoReg) (imm8 : BitVec 8)
  /-- `T.ADD.imm8`, format T3 (R322). -/
  | tAddImm8 (rd : LoReg) (imm8 : BitVec 8)
  /-- `T.SUB.imm8`, format T3 (R323). -/
  | tSubImm8 (rd : LoReg) (imm8 : BitVec 8)
  /-- `T.AND`, format T4 (R324). -/
  | tAnd (rs rd : LoReg)
  /-- `T.EOR`, format T4 (R325). -/
  | tEor (rs rd : LoReg)
  /-- `T.LSL.reg`, format T4 (R326). -/
  | tLslReg (rs rd : LoReg)
  /-- `T.LSR.reg`, format T4 (R327). -/
  | tLsrReg (rs rd : LoReg)
  /-- `T.ASR.reg`, format T4 (R328). -/
  | tAsrReg (rs rd : LoReg)
  /-- `T.ADC`, format T4 (R329). -/
  | tAdc (rs rd : LoReg)
  /-- `T.SBC`, format T4 (R330). -/
  | tSbc (rs rd : LoReg)
  /-- `T.ROR`, format T4 (R331). -/
  | tRor (rs rd : LoReg)
  /-- `T.TST`, format T4 (R332). -/
  | tTst (rs rd : LoReg)
  /-- `T.NEG`, format T4 (R333). -/
  | tNeg (rs rd : LoReg)
  /-- `T.CMP.reg`, format T4 (R334). -/
  | tCmpReg (rs rd : LoReg)
  /-- `T.CMN`, format T4 (R335). -/
  | tCmn (rs rd : LoReg)
  /-- `T.ORR`, format T4 (R336). -/
  | tOrr (rs rd : LoReg)
  /-- `T.MUL`, format T4 (R337). -/
  | tMul (rs rd : LoReg)
  /-- `T.BIC`, format T4 (R338). -/
  | tBic (rs rd : LoReg)
  /-- `T.MVN`, format T4 (R339). -/
  | tMvn (rs rd : LoReg)
  /-- `T.ADD.hi`, format T5 (R340). -/
  | tAddHi (h1 h2 : Bool) (rs rd : LoReg)
  /-- `T.CMP.hi`, format T5 (R341). -/
  | tCmpHi (h1 h2 : Bool) (rs rd : LoReg)
  /-- `T.MOV.hi`, format T5 (R342). -/
  | tMovHi (h1 h2 : Bool) (rs rd : LoReg)
  /-- `T.BX`, format T5 (R343). -/
  | tBx (h2 : Bool) (rs : LoReg) (sbz : BitVec 3)
  /-- `T.LDR.pc`, format T6 (R370). -/
  | tLdrPc (rd : LoReg) (imm8 : BitVec 8)
  /-- `T.STR.reg`, format T7 (R373). -/
  | tStrReg (ro rb rd : LoReg)
  /-- `T.STRB.reg`, format T7 (R374). -/
  | tStrbReg (ro rb rd : LoReg)
  /-- `T.LDR.reg`, format T7 (R375). -/
  | tLdrReg (ro rb rd : LoReg)
  /-- `T.LDRB.reg`, format T7 (R376). -/
  | tLdrbReg (ro rb rd : LoReg)
  /-- `T.STRH.reg`, format T8 (R377). -/
  | tStrhReg (ro rb rd : LoReg)
  /-- `T.LDSB.reg`, format T8 (R378). -/
  | tLdsbReg (ro rb rd : LoReg)
  /-- `T.LDRH.reg`, format T8 (R379). -/
  | tLdrhReg (ro rb rd : LoReg)
  /-- `T.LDSH.reg`, format T8 (R380). -/
  | tLdshReg (ro rb rd : LoReg)
  /-- `T.STR.imm`, format T9 (R381). -/
  | tStrImm (imm5 : BitVec 5) (rb rd : LoReg)
  /-- `T.LDR.imm`, format T9 (R382). -/
  | tLdrImm (imm5 : BitVec 5) (rb rd : LoReg)
  /-- `T.STRB.imm`, format T9 (R383). -/
  | tStrbImm (imm5 : BitVec 5) (rb rd : LoReg)
  /-- `T.LDRB.imm`, format T9 (R384). -/
  | tLdrbImm (imm5 : BitVec 5) (rb rd : LoReg)
  /-- `T.STRH.imm`, format T10 (R385). -/
  | tStrhImm (imm5 : BitVec 5) (rb rd : LoReg)
  /-- `T.LDRH.imm`, format T10 (R386). -/
  | tLdrhImm (imm5 : BitVec 5) (rb rd : LoReg)
  /-- `T.STR.sp`, format T11 (R387). -/
  | tStrSp (rd : LoReg) (imm8 : BitVec 8)
  /-- `T.LDR.sp`, format T11 (R388). -/
  | tLdrSp (rd : LoReg) (imm8 : BitVec 8)
  /-- `T.ADD.pc`, format T12 (R350). -/
  | tAddPc (rd : LoReg) (imm8 : BitVec 8)
  /-- `T.ADD.sp`, format T12 (R351). -/
  | tAddSp (rd : LoReg) (imm8 : BitVec 8)
  /-- `T.ADD.spimm`, format T13 (R352). -/
  | tAddSpimm (imm7 : BitVec 7)
  /-- `T.SUB.spimm`, format T13 (R353). -/
  | tSubSpimm (imm7 : BitVec 7)
  /-- `T.PUSH`, format T14 (R390). -/
  | tPush (r : Bool) (rlist : BitVec 8)
  /-- `T.POP`, format T14 (R391). -/
  | tPop (r : Bool) (rlist : BitVec 8)
  /-- `T.STMIA`, format T15 (R393). -/
  | tStmia (rb : LoReg) (rlist : BitVec 8)
  /-- `T.LDMIA`, format T15 (R394). -/
  | tLdmia (rb : LoReg) (rlist : BitVec 8)
  /-- `T.BEQ`, format T16 (R405). -/
  | tBeq (imm8 : BitVec 8)
  /-- `T.BNE`, format T16 (R405). -/
  | tBne (imm8 : BitVec 8)
  /-- `T.BCS`, format T16 (R405). -/
  | tBcs (imm8 : BitVec 8)
  /-- `T.BCC`, format T16 (R405). -/
  | tBcc (imm8 : BitVec 8)
  /-- `T.BMI`, format T16 (R405). -/
  | tBmi (imm8 : BitVec 8)
  /-- `T.BPL`, format T16 (R405). -/
  | tBpl (imm8 : BitVec 8)
  /-- `T.BVS`, format T16 (R405). -/
  | tBvs (imm8 : BitVec 8)
  /-- `T.BVC`, format T16 (R405). -/
  | tBvc (imm8 : BitVec 8)
  /-- `T.BHI`, format T16 (R405). -/
  | tBhi (imm8 : BitVec 8)
  /-- `T.BLS`, format T16 (R405). -/
  | tBls (imm8 : BitVec 8)
  /-- `T.BGE`, format T16 (R405). -/
  | tBge (imm8 : BitVec 8)
  /-- `T.BLT`, format T16 (R405). -/
  | tBlt (imm8 : BitVec 8)
  /-- `T.BGT`, format T16 (R405). -/
  | tBgt (imm8 : BitVec 8)
  /-- `T.BLE`, format T16 (R405). -/
  | tBle (imm8 : BitVec 8)
  /-- `T.SWI`, format T17 (R406). -/
  | tSwi (comment : BitVec 8)
  /-- `T.B`, format T18 (R407). -/
  | tB (imm11 : BitVec 11)
  /-- `T.BL.hi`, format T19 (R410). -/
  | tBlHi (imm11 : BitVec 11)
  /-- `T.BL.lo`, format T19 (R411). -/
  | tBlLo (imm11 : BitVec 11)
  deriving DecidableEq, Repr

end Sys2Proof
end

