-- ==== Sys2Proof/Decode.lean ====
section
/-! DEFINITION. The decoder and the encoder (30_encoding). The decoder is the opcode table itself: a row says which
bits are fixed (its mask and match) and how its fields are read. A word that matches no row is reserved
(R137, R138) and is rejected by name. -/

namespace Sys2Proof

/-! ## Reading fields (R114, R125) -/

/-- The value of bits `hi` down to `lo` of `w` (00_scope R7). -/
def slice (hi lo : Nat) (w : BitVec k) : Nat := w.toNat / 2 ^ lo % 2 ^ (hi + 1 - lo)

/-- The `n`-bit field whose lowest bit is bit `lo`. -/
def fieldAt (lo n : Nat) (w : BitVec k) : BitVec n := BitVec.ofNat n (w.toNat / 2 ^ lo)

/-- Bit `lo`. -/
def bitAt (lo : Nat) (w : BitVec k) : Bool := w.toNat / 2 ^ lo % 2 == 1

/-- The condition of a 4-bit code (40 R160). -/
def Cond.ofCode : Nat → Cond
  | 0 => .eq | 1 => .ne | 2 => .cs | 3 => .cc | 4 => .mi | 5 => .pl | 6 => .vs | 7 => .vc
  | 8 => .hi | 9 => .ls | 10 => .ge | 11 => .lt | 12 => .gt | 13 => .le | 14 => .al | _ => .nv

/-- The 4-bit code of a condition (40 R160). -/
def Cond.code : Cond → Nat
  | .eq => 0 | .ne => 1 | .cs => 2 | .cc => 3 | .mi => 4 | .pl => 5 | .vs => 6 | .vc => 7
  | .hi => 8 | .ls => 9 | .ge => 10 | .lt => 11 | .gt => 12 | .le => 13 | .al => 14 | .nv => 15

/-- The shift type of a 2-bit code (30_encoding R117). -/
def Shift.ofCode : Nat → Shift
  | 0 => .lsl | 1 => .lsr | 2 => .asr | _ => .ror

/-- The 2-bit code of a shift type (30_encoding R117). -/
def Shift.code : Shift → Nat
  | .lsl => 0 | .lsr => 1 | .asr => 2 | .ror => 3

/-- The condition field whose lowest bit is bit `lo` (R113). -/
def condAt (lo : Nat) (w : BitVec k) : Cond := Cond.ofCode (slice (lo + 3) lo w)

/-- The shift-type field whose lowest bit is bit `lo` (R117). -/
def shiftAt (lo : Nat) (w : BitVec k) : Shift := Shift.ofCode (slice (lo + 1) lo w)

/-! ## The table -/

/-- A field that a row fixes: bits `hi` to `lo` hold `value`. -/
structure Fixed where
  hi    : Nat
  lo    : Nat
  value : Nat
  deriving DecidableEq, Repr

/-- One row of the opcode table: its mnemonic, its fixed bits, and the instruction read from a word's fields. -/
structure Row (k : Nat) where
  mnemonic : String
  fixed    : List Fixed
  build    : BitVec k → Instr

/-- The word has the row's fixed bits: `word AND mask = match`. -/
def Row.fits (r : Row k) (w : BitVec k) : Bool := r.fixed.all fun f => slice f.hi f.lo w == f.value

/-- Two rows that fix one field to different values: no word fits both. -/
def Row.apart (r q : Row k) : Bool :=
  r.fixed.any fun f => q.fixed.any fun g =>
    -- the bits both fields cover
    max f.lo g.lo ≤ min f.hi g.hi &&
      f.value / 2 ^ (max f.lo g.lo - f.lo) % 2 ^ (min f.hi g.hi + 1 - max f.lo g.lo) !=
        g.value / 2 ^ (max f.lo g.lo - g.lo) % 2 ^ (min f.hi g.hi + 1 - max f.lo g.lo)

/-- Rows `AND.imm` to `ADC.imm` of the opcode table. -/
def wideRows1 : List (Row 32) :=
  [
   ⟨"AND.imm", [⟨27, 21, 16⟩],
    fun w => .andImm (condAt 28 w) (bitAt 20 w) (fieldAt 16 4 w) (fieldAt 12 4 w) (fieldAt 8 4 w) (fieldAt 0 8 w)⟩,
   ⟨"AND.reg_is", [⟨27, 21, 0⟩, ⟨4, 4, 0⟩],
    fun w => .andRegIs (condAt 28 w) (bitAt 20 w) (fieldAt 16 4 w) (fieldAt 12 4 w) (fieldAt 7 5 w) (shiftAt 5 w) (fieldAt 0 4 w)⟩,
   ⟨"AND.reg_rs", [⟨27, 21, 0⟩, ⟨7, 7, 0⟩, ⟨4, 4, 1⟩],
    fun w => .andRegRs (condAt 28 w) (bitAt 20 w) (fieldAt 16 4 w) (fieldAt 12 4 w) (fieldAt 8 4 w) (shiftAt 5 w) (fieldAt 0 4 w)⟩,
   ⟨"EOR.imm", [⟨27, 21, 17⟩],
    fun w => .eorImm (condAt 28 w) (bitAt 20 w) (fieldAt 16 4 w) (fieldAt 12 4 w) (fieldAt 8 4 w) (fieldAt 0 8 w)⟩,
   ⟨"EOR.reg_is", [⟨27, 21, 1⟩, ⟨4, 4, 0⟩],
    fun w => .eorRegIs (condAt 28 w) (bitAt 20 w) (fieldAt 16 4 w) (fieldAt 12 4 w) (fieldAt 7 5 w) (shiftAt 5 w) (fieldAt 0 4 w)⟩,
   ⟨"EOR.reg_rs", [⟨27, 21, 1⟩, ⟨7, 7, 0⟩, ⟨4, 4, 1⟩],
    fun w => .eorRegRs (condAt 28 w) (bitAt 20 w) (fieldAt 16 4 w) (fieldAt 12 4 w) (fieldAt 8 4 w) (shiftAt 5 w) (fieldAt 0 4 w)⟩,
   ⟨"SUB.imm", [⟨27, 21, 18⟩],
    fun w => .subImm (condAt 28 w) (bitAt 20 w) (fieldAt 16 4 w) (fieldAt 12 4 w) (fieldAt 8 4 w) (fieldAt 0 8 w)⟩,
   ⟨"SUB.reg_is", [⟨27, 21, 2⟩, ⟨4, 4, 0⟩],
    fun w => .subRegIs (condAt 28 w) (bitAt 20 w) (fieldAt 16 4 w) (fieldAt 12 4 w) (fieldAt 7 5 w) (shiftAt 5 w) (fieldAt 0 4 w)⟩,
   ⟨"SUB.reg_rs", [⟨27, 21, 2⟩, ⟨7, 7, 0⟩, ⟨4, 4, 1⟩],
    fun w => .subRegRs (condAt 28 w) (bitAt 20 w) (fieldAt 16 4 w) (fieldAt 12 4 w) (fieldAt 8 4 w) (shiftAt 5 w) (fieldAt 0 4 w)⟩,
   ⟨"RSB.imm", [⟨27, 21, 19⟩],
    fun w => .rsbImm (condAt 28 w) (bitAt 20 w) (fieldAt 16 4 w) (fieldAt 12 4 w) (fieldAt 8 4 w) (fieldAt 0 8 w)⟩,
   ⟨"RSB.reg_is", [⟨27, 21, 3⟩, ⟨4, 4, 0⟩],
    fun w => .rsbRegIs (condAt 28 w) (bitAt 20 w) (fieldAt 16 4 w) (fieldAt 12 4 w) (fieldAt 7 5 w) (shiftAt 5 w) (fieldAt 0 4 w)⟩,
   ⟨"RSB.reg_rs", [⟨27, 21, 3⟩, ⟨7, 7, 0⟩, ⟨4, 4, 1⟩],
    fun w => .rsbRegRs (condAt 28 w) (bitAt 20 w) (fieldAt 16 4 w) (fieldAt 12 4 w) (fieldAt 8 4 w) (shiftAt 5 w) (fieldAt 0 4 w)⟩,
   ⟨"ADD.imm", [⟨27, 21, 20⟩],
    fun w => .addImm (condAt 28 w) (bitAt 20 w) (fieldAt 16 4 w) (fieldAt 12 4 w) (fieldAt 8 4 w) (fieldAt 0 8 w)⟩,
   ⟨"ADD.reg_is", [⟨27, 21, 4⟩, ⟨4, 4, 0⟩],
    fun w => .addRegIs (condAt 28 w) (bitAt 20 w) (fieldAt 16 4 w) (fieldAt 12 4 w) (fieldAt 7 5 w) (shiftAt 5 w) (fieldAt 0 4 w)⟩,
   ⟨"ADD.reg_rs", [⟨27, 21, 4⟩, ⟨7, 7, 0⟩, ⟨4, 4, 1⟩],
    fun w => .addRegRs (condAt 28 w) (bitAt 20 w) (fieldAt 16 4 w) (fieldAt 12 4 w) (fieldAt 8 4 w) (shiftAt 5 w) (fieldAt 0 4 w)⟩,
   ⟨"ADC.imm", [⟨27, 21, 21⟩],
    fun w => .adcImm (condAt 28 w) (bitAt 20 w) (fieldAt 16 4 w) (fieldAt 12 4 w) (fieldAt 8 4 w) (fieldAt 0 8 w)⟩]

/-- Rows `ADC.reg_is` to `CMP.reg_is` of the opcode table. -/
def wideRows2 : List (Row 32) :=
  [
   ⟨"ADC.reg_is", [⟨27, 21, 5⟩, ⟨4, 4, 0⟩],
    fun w => .adcRegIs (condAt 28 w) (bitAt 20 w) (fieldAt 16 4 w) (fieldAt 12 4 w) (fieldAt 7 5 w) (shiftAt 5 w) (fieldAt 0 4 w)⟩,
   ⟨"ADC.reg_rs", [⟨27, 21, 5⟩, ⟨7, 7, 0⟩, ⟨4, 4, 1⟩],
    fun w => .adcRegRs (condAt 28 w) (bitAt 20 w) (fieldAt 16 4 w) (fieldAt 12 4 w) (fieldAt 8 4 w) (shiftAt 5 w) (fieldAt 0 4 w)⟩,
   ⟨"SBC.imm", [⟨27, 21, 22⟩],
    fun w => .sbcImm (condAt 28 w) (bitAt 20 w) (fieldAt 16 4 w) (fieldAt 12 4 w) (fieldAt 8 4 w) (fieldAt 0 8 w)⟩,
   ⟨"SBC.reg_is", [⟨27, 21, 6⟩, ⟨4, 4, 0⟩],
    fun w => .sbcRegIs (condAt 28 w) (bitAt 20 w) (fieldAt 16 4 w) (fieldAt 12 4 w) (fieldAt 7 5 w) (shiftAt 5 w) (fieldAt 0 4 w)⟩,
   ⟨"SBC.reg_rs", [⟨27, 21, 6⟩, ⟨7, 7, 0⟩, ⟨4, 4, 1⟩],
    fun w => .sbcRegRs (condAt 28 w) (bitAt 20 w) (fieldAt 16 4 w) (fieldAt 12 4 w) (fieldAt 8 4 w) (shiftAt 5 w) (fieldAt 0 4 w)⟩,
   ⟨"RSC.imm", [⟨27, 21, 23⟩],
    fun w => .rscImm (condAt 28 w) (bitAt 20 w) (fieldAt 16 4 w) (fieldAt 12 4 w) (fieldAt 8 4 w) (fieldAt 0 8 w)⟩,
   ⟨"RSC.reg_is", [⟨27, 21, 7⟩, ⟨4, 4, 0⟩],
    fun w => .rscRegIs (condAt 28 w) (bitAt 20 w) (fieldAt 16 4 w) (fieldAt 12 4 w) (fieldAt 7 5 w) (shiftAt 5 w) (fieldAt 0 4 w)⟩,
   ⟨"RSC.reg_rs", [⟨27, 21, 7⟩, ⟨7, 7, 0⟩, ⟨4, 4, 1⟩],
    fun w => .rscRegRs (condAt 28 w) (bitAt 20 w) (fieldAt 16 4 w) (fieldAt 12 4 w) (fieldAt 8 4 w) (shiftAt 5 w) (fieldAt 0 4 w)⟩,
   ⟨"TST.imm", [⟨27, 20, 49⟩],
    fun w => .tstImm (condAt 28 w) (fieldAt 16 4 w) (fieldAt 12 4 w) (fieldAt 8 4 w) (fieldAt 0 8 w)⟩,
   ⟨"TST.reg_is", [⟨27, 20, 17⟩, ⟨4, 4, 0⟩],
    fun w => .tstRegIs (condAt 28 w) (fieldAt 16 4 w) (fieldAt 12 4 w) (fieldAt 7 5 w) (shiftAt 5 w) (fieldAt 0 4 w)⟩,
   ⟨"TST.reg_rs", [⟨27, 20, 17⟩, ⟨7, 7, 0⟩, ⟨4, 4, 1⟩],
    fun w => .tstRegRs (condAt 28 w) (fieldAt 16 4 w) (fieldAt 12 4 w) (fieldAt 8 4 w) (shiftAt 5 w) (fieldAt 0 4 w)⟩,
   ⟨"TEQ.imm", [⟨27, 20, 51⟩],
    fun w => .teqImm (condAt 28 w) (fieldAt 16 4 w) (fieldAt 12 4 w) (fieldAt 8 4 w) (fieldAt 0 8 w)⟩,
   ⟨"TEQ.reg_is", [⟨27, 20, 19⟩, ⟨4, 4, 0⟩],
    fun w => .teqRegIs (condAt 28 w) (fieldAt 16 4 w) (fieldAt 12 4 w) (fieldAt 7 5 w) (shiftAt 5 w) (fieldAt 0 4 w)⟩,
   ⟨"TEQ.reg_rs", [⟨27, 20, 19⟩, ⟨7, 7, 0⟩, ⟨4, 4, 1⟩],
    fun w => .teqRegRs (condAt 28 w) (fieldAt 16 4 w) (fieldAt 12 4 w) (fieldAt 8 4 w) (shiftAt 5 w) (fieldAt 0 4 w)⟩,
   ⟨"CMP.imm", [⟨27, 20, 53⟩],
    fun w => .cmpImm (condAt 28 w) (fieldAt 16 4 w) (fieldAt 12 4 w) (fieldAt 8 4 w) (fieldAt 0 8 w)⟩,
   ⟨"CMP.reg_is", [⟨27, 20, 21⟩, ⟨4, 4, 0⟩],
    fun w => .cmpRegIs (condAt 28 w) (fieldAt 16 4 w) (fieldAt 12 4 w) (fieldAt 7 5 w) (shiftAt 5 w) (fieldAt 0 4 w)⟩]

/-- Rows `CMP.reg_rs` to `MVN.reg_rs` of the opcode table. -/
def wideRows3 : List (Row 32) :=
  [
   ⟨"CMP.reg_rs", [⟨27, 20, 21⟩, ⟨7, 7, 0⟩, ⟨4, 4, 1⟩],
    fun w => .cmpRegRs (condAt 28 w) (fieldAt 16 4 w) (fieldAt 12 4 w) (fieldAt 8 4 w) (shiftAt 5 w) (fieldAt 0 4 w)⟩,
   ⟨"CMN.imm", [⟨27, 20, 55⟩],
    fun w => .cmnImm (condAt 28 w) (fieldAt 16 4 w) (fieldAt 12 4 w) (fieldAt 8 4 w) (fieldAt 0 8 w)⟩,
   ⟨"CMN.reg_is", [⟨27, 20, 23⟩, ⟨4, 4, 0⟩],
    fun w => .cmnRegIs (condAt 28 w) (fieldAt 16 4 w) (fieldAt 12 4 w) (fieldAt 7 5 w) (shiftAt 5 w) (fieldAt 0 4 w)⟩,
   ⟨"CMN.reg_rs", [⟨27, 20, 23⟩, ⟨7, 7, 0⟩, ⟨4, 4, 1⟩],
    fun w => .cmnRegRs (condAt 28 w) (fieldAt 16 4 w) (fieldAt 12 4 w) (fieldAt 8 4 w) (shiftAt 5 w) (fieldAt 0 4 w)⟩,
   ⟨"ORR.imm", [⟨27, 21, 28⟩],
    fun w => .orrImm (condAt 28 w) (bitAt 20 w) (fieldAt 16 4 w) (fieldAt 12 4 w) (fieldAt 8 4 w) (fieldAt 0 8 w)⟩,
   ⟨"ORR.reg_is", [⟨27, 21, 12⟩, ⟨4, 4, 0⟩],
    fun w => .orrRegIs (condAt 28 w) (bitAt 20 w) (fieldAt 16 4 w) (fieldAt 12 4 w) (fieldAt 7 5 w) (shiftAt 5 w) (fieldAt 0 4 w)⟩,
   ⟨"ORR.reg_rs", [⟨27, 21, 12⟩, ⟨7, 7, 0⟩, ⟨4, 4, 1⟩],
    fun w => .orrRegRs (condAt 28 w) (bitAt 20 w) (fieldAt 16 4 w) (fieldAt 12 4 w) (fieldAt 8 4 w) (shiftAt 5 w) (fieldAt 0 4 w)⟩,
   ⟨"MOV.imm", [⟨27, 21, 29⟩],
    fun w => .movImm (condAt 28 w) (bitAt 20 w) (fieldAt 16 4 w) (fieldAt 12 4 w) (fieldAt 8 4 w) (fieldAt 0 8 w)⟩,
   ⟨"MOV.reg_is", [⟨27, 21, 13⟩, ⟨4, 4, 0⟩],
    fun w => .movRegIs (condAt 28 w) (bitAt 20 w) (fieldAt 16 4 w) (fieldAt 12 4 w) (fieldAt 7 5 w) (shiftAt 5 w) (fieldAt 0 4 w)⟩,
   ⟨"MOV.reg_rs", [⟨27, 21, 13⟩, ⟨7, 7, 0⟩, ⟨4, 4, 1⟩],
    fun w => .movRegRs (condAt 28 w) (bitAt 20 w) (fieldAt 16 4 w) (fieldAt 12 4 w) (fieldAt 8 4 w) (shiftAt 5 w) (fieldAt 0 4 w)⟩,
   ⟨"BIC.imm", [⟨27, 21, 30⟩],
    fun w => .bicImm (condAt 28 w) (bitAt 20 w) (fieldAt 16 4 w) (fieldAt 12 4 w) (fieldAt 8 4 w) (fieldAt 0 8 w)⟩,
   ⟨"BIC.reg_is", [⟨27, 21, 14⟩, ⟨4, 4, 0⟩],
    fun w => .bicRegIs (condAt 28 w) (bitAt 20 w) (fieldAt 16 4 w) (fieldAt 12 4 w) (fieldAt 7 5 w) (shiftAt 5 w) (fieldAt 0 4 w)⟩,
   ⟨"BIC.reg_rs", [⟨27, 21, 14⟩, ⟨7, 7, 0⟩, ⟨4, 4, 1⟩],
    fun w => .bicRegRs (condAt 28 w) (bitAt 20 w) (fieldAt 16 4 w) (fieldAt 12 4 w) (fieldAt 8 4 w) (shiftAt 5 w) (fieldAt 0 4 w)⟩,
   ⟨"MVN.imm", [⟨27, 21, 31⟩],
    fun w => .mvnImm (condAt 28 w) (bitAt 20 w) (fieldAt 16 4 w) (fieldAt 12 4 w) (fieldAt 8 4 w) (fieldAt 0 8 w)⟩,
   ⟨"MVN.reg_is", [⟨27, 21, 15⟩, ⟨4, 4, 0⟩],
    fun w => .mvnRegIs (condAt 28 w) (bitAt 20 w) (fieldAt 16 4 w) (fieldAt 12 4 w) (fieldAt 7 5 w) (shiftAt 5 w) (fieldAt 0 4 w)⟩,
   ⟨"MVN.reg_rs", [⟨27, 21, 15⟩, ⟨7, 7, 0⟩, ⟨4, 4, 1⟩],
    fun w => .mvnRegRs (condAt 28 w) (bitAt 20 w) (fieldAt 16 4 w) (fieldAt 12 4 w) (fieldAt 8 4 w) (shiftAt 5 w) (fieldAt 0 4 w)⟩]

/-- Rows `MRS.cpsr` to `STRH.reg` of the opcode table. -/
def wideRows4 : List (Row 32) :=
  [
   ⟨"MRS.cpsr", [⟨27, 16, 271⟩, ⟨11, 0, 0⟩],
    fun w => .mrsCpsr (condAt 28 w) (fieldAt 12 4 w)⟩,
   ⟨"MRS.spsr", [⟨27, 16, 335⟩, ⟨11, 0, 0⟩],
    fun w => .mrsSpsr (condAt 28 w) (fieldAt 12 4 w)⟩,
   ⟨"MSR.reg.cpsr", [⟨27, 20, 18⟩, ⟨15, 4, 3840⟩],
    fun w => .msrRegCpsr (condAt 28 w) (fieldAt 16 4 w) (fieldAt 0 4 w)⟩,
   ⟨"MSR.reg.spsr", [⟨27, 20, 22⟩, ⟨15, 4, 3840⟩],
    fun w => .msrRegSpsr (condAt 28 w) (fieldAt 16 4 w) (fieldAt 0 4 w)⟩,
   ⟨"MSR.imm.cpsr", [⟨27, 20, 50⟩, ⟨15, 12, 15⟩],
    fun w => .msrImmCpsr (condAt 28 w) (fieldAt 16 4 w) (fieldAt 8 4 w) (fieldAt 0 8 w)⟩,
   ⟨"MSR.imm.spsr", [⟨27, 20, 54⟩, ⟨15, 12, 15⟩],
    fun w => .msrImmSpsr (condAt 28 w) (fieldAt 16 4 w) (fieldAt 8 4 w) (fieldAt 0 8 w)⟩,
   ⟨"MUL", [⟨27, 21, 0⟩, ⟨7, 4, 9⟩],
    fun w => .mul (condAt 28 w) (bitAt 20 w) (fieldAt 16 4 w) (fieldAt 12 4 w) (fieldAt 8 4 w) (fieldAt 0 4 w)⟩,
   ⟨"MLA", [⟨27, 21, 1⟩, ⟨7, 4, 9⟩],
    fun w => .mla (condAt 28 w) (bitAt 20 w) (fieldAt 16 4 w) (fieldAt 12 4 w) (fieldAt 8 4 w) (fieldAt 0 4 w)⟩,
   ⟨"UMULL", [⟨27, 21, 4⟩, ⟨7, 4, 9⟩],
    fun w => .umull (condAt 28 w) (bitAt 20 w) (fieldAt 16 4 w) (fieldAt 12 4 w) (fieldAt 8 4 w) (fieldAt 0 4 w)⟩,
   ⟨"UMLAL", [⟨27, 21, 5⟩, ⟨7, 4, 9⟩],
    fun w => .umlal (condAt 28 w) (bitAt 20 w) (fieldAt 16 4 w) (fieldAt 12 4 w) (fieldAt 8 4 w) (fieldAt 0 4 w)⟩,
   ⟨"SMULL", [⟨27, 21, 6⟩, ⟨7, 4, 9⟩],
    fun w => .smull (condAt 28 w) (bitAt 20 w) (fieldAt 16 4 w) (fieldAt 12 4 w) (fieldAt 8 4 w) (fieldAt 0 4 w)⟩,
   ⟨"SMLAL", [⟨27, 21, 7⟩, ⟨7, 4, 9⟩],
    fun w => .smlal (condAt 28 w) (bitAt 20 w) (fieldAt 16 4 w) (fieldAt 12 4 w) (fieldAt 8 4 w) (fieldAt 0 4 w)⟩,
   ⟨"SWP", [⟨27, 20, 16⟩, ⟨11, 4, 9⟩],
    fun w => .swp (condAt 28 w) (fieldAt 16 4 w) (fieldAt 12 4 w) (fieldAt 0 4 w)⟩,
   ⟨"SWPB", [⟨27, 20, 20⟩, ⟨11, 4, 9⟩],
    fun w => .swpb (condAt 28 w) (fieldAt 16 4 w) (fieldAt 12 4 w) (fieldAt 0 4 w)⟩,
   ⟨"BX", [⟨27, 4, 1245169⟩],
    fun w => .bx (condAt 28 w) (fieldAt 0 4 w)⟩,
   ⟨"STRH.reg", [⟨27, 25, 0⟩, ⟨22, 22, 0⟩, ⟨20, 20, 0⟩, ⟨11, 4, 11⟩],
    fun w => .strhReg (condAt 28 w) (bitAt 24 w) (bitAt 23 w) (bitAt 21 w) (fieldAt 16 4 w) (fieldAt 12 4 w) (fieldAt 0 4 w)⟩]

/-- Rows `STRH.imm` to `LDR.reg.pre` of the opcode table. -/
def wideRows5 : List (Row 32) :=
  [
   ⟨"STRH.imm", [⟨27, 25, 0⟩, ⟨22, 22, 1⟩, ⟨20, 20, 0⟩, ⟨7, 4, 11⟩],
    fun w => .strhImm (condAt 28 w) (bitAt 24 w) (bitAt 23 w) (bitAt 21 w) (fieldAt 16 4 w) (fieldAt 12 4 w) (fieldAt 8 4 w) (fieldAt 0 4 w)⟩,
   ⟨"LDRH.reg", [⟨27, 25, 0⟩, ⟨22, 22, 0⟩, ⟨20, 20, 1⟩, ⟨11, 4, 11⟩],
    fun w => .ldrhReg (condAt 28 w) (bitAt 24 w) (bitAt 23 w) (bitAt 21 w) (fieldAt 16 4 w) (fieldAt 12 4 w) (fieldAt 0 4 w)⟩,
   ⟨"LDRH.imm", [⟨27, 25, 0⟩, ⟨22, 22, 1⟩, ⟨20, 20, 1⟩, ⟨7, 4, 11⟩],
    fun w => .ldrhImm (condAt 28 w) (bitAt 24 w) (bitAt 23 w) (bitAt 21 w) (fieldAt 16 4 w) (fieldAt 12 4 w) (fieldAt 8 4 w) (fieldAt 0 4 w)⟩,
   ⟨"LDRSB.reg", [⟨27, 25, 0⟩, ⟨22, 22, 0⟩, ⟨20, 20, 1⟩, ⟨11, 4, 13⟩],
    fun w => .ldrsbReg (condAt 28 w) (bitAt 24 w) (bitAt 23 w) (bitAt 21 w) (fieldAt 16 4 w) (fieldAt 12 4 w) (fieldAt 0 4 w)⟩,
   ⟨"LDRSB.imm", [⟨27, 25, 0⟩, ⟨22, 22, 1⟩, ⟨20, 20, 1⟩, ⟨7, 4, 13⟩],
    fun w => .ldrsbImm (condAt 28 w) (bitAt 24 w) (bitAt 23 w) (bitAt 21 w) (fieldAt 16 4 w) (fieldAt 12 4 w) (fieldAt 8 4 w) (fieldAt 0 4 w)⟩,
   ⟨"LDRSH.reg", [⟨27, 25, 0⟩, ⟨22, 22, 0⟩, ⟨20, 20, 1⟩, ⟨11, 4, 15⟩],
    fun w => .ldrshReg (condAt 28 w) (bitAt 24 w) (bitAt 23 w) (bitAt 21 w) (fieldAt 16 4 w) (fieldAt 12 4 w) (fieldAt 0 4 w)⟩,
   ⟨"LDRSH.imm", [⟨27, 25, 0⟩, ⟨22, 22, 1⟩, ⟨20, 20, 1⟩, ⟨7, 4, 15⟩],
    fun w => .ldrshImm (condAt 28 w) (bitAt 24 w) (bitAt 23 w) (bitAt 21 w) (fieldAt 16 4 w) (fieldAt 12 4 w) (fieldAt 8 4 w) (fieldAt 0 4 w)⟩,
   ⟨"STR.imm.pre", [⟨27, 24, 5⟩, ⟨22, 22, 0⟩, ⟨20, 20, 0⟩],
    fun w => .strImmPre (condAt 28 w) (bitAt 23 w) (bitAt 21 w) (fieldAt 16 4 w) (fieldAt 12 4 w) (fieldAt 0 12 w)⟩,
   ⟨"STR.imm.post", [⟨27, 24, 4⟩, ⟨22, 20, 0⟩],
    fun w => .strImmPost (condAt 28 w) (bitAt 23 w) (fieldAt 16 4 w) (fieldAt 12 4 w) (fieldAt 0 12 w)⟩,
   ⟨"STR.reg.pre", [⟨27, 24, 7⟩, ⟨22, 22, 0⟩, ⟨20, 20, 0⟩, ⟨4, 4, 0⟩],
    fun w => .strRegPre (condAt 28 w) (bitAt 23 w) (bitAt 21 w) (fieldAt 16 4 w) (fieldAt 12 4 w) (fieldAt 7 5 w) (shiftAt 5 w) (fieldAt 0 4 w)⟩,
   ⟨"STR.reg.post", [⟨27, 24, 6⟩, ⟨22, 20, 0⟩, ⟨4, 4, 0⟩],
    fun w => .strRegPost (condAt 28 w) (bitAt 23 w) (fieldAt 16 4 w) (fieldAt 12 4 w) (fieldAt 7 5 w) (shiftAt 5 w) (fieldAt 0 4 w)⟩,
   ⟨"STRT.imm", [⟨27, 24, 4⟩, ⟨22, 20, 2⟩],
    fun w => .strtImm (condAt 28 w) (bitAt 23 w) (fieldAt 16 4 w) (fieldAt 12 4 w) (fieldAt 0 12 w)⟩,
   ⟨"STRT.reg", [⟨27, 24, 6⟩, ⟨22, 20, 2⟩, ⟨4, 4, 0⟩],
    fun w => .strtReg (condAt 28 w) (bitAt 23 w) (fieldAt 16 4 w) (fieldAt 12 4 w) (fieldAt 7 5 w) (shiftAt 5 w) (fieldAt 0 4 w)⟩,
   ⟨"LDR.imm.pre", [⟨27, 24, 5⟩, ⟨22, 22, 0⟩, ⟨20, 20, 1⟩],
    fun w => .ldrImmPre (condAt 28 w) (bitAt 23 w) (bitAt 21 w) (fieldAt 16 4 w) (fieldAt 12 4 w) (fieldAt 0 12 w)⟩,
   ⟨"LDR.imm.post", [⟨27, 24, 4⟩, ⟨22, 20, 1⟩],
    fun w => .ldrImmPost (condAt 28 w) (bitAt 23 w) (fieldAt 16 4 w) (fieldAt 12 4 w) (fieldAt 0 12 w)⟩,
   ⟨"LDR.reg.pre", [⟨27, 24, 7⟩, ⟨22, 22, 0⟩, ⟨20, 20, 1⟩, ⟨4, 4, 0⟩],
    fun w => .ldrRegPre (condAt 28 w) (bitAt 23 w) (bitAt 21 w) (fieldAt 16 4 w) (fieldAt 12 4 w) (fieldAt 7 5 w) (shiftAt 5 w) (fieldAt 0 4 w)⟩]

/-- Rows `LDR.reg.post` to `UND` of the opcode table. -/
def wideRows6 : List (Row 32) :=
  [
   ⟨"LDR.reg.post", [⟨27, 24, 6⟩, ⟨22, 20, 1⟩, ⟨4, 4, 0⟩],
    fun w => .ldrRegPost (condAt 28 w) (bitAt 23 w) (fieldAt 16 4 w) (fieldAt 12 4 w) (fieldAt 7 5 w) (shiftAt 5 w) (fieldAt 0 4 w)⟩,
   ⟨"LDRT.imm", [⟨27, 24, 4⟩, ⟨22, 20, 3⟩],
    fun w => .ldrtImm (condAt 28 w) (bitAt 23 w) (fieldAt 16 4 w) (fieldAt 12 4 w) (fieldAt 0 12 w)⟩,
   ⟨"LDRT.reg", [⟨27, 24, 6⟩, ⟨22, 20, 3⟩, ⟨4, 4, 0⟩],
    fun w => .ldrtReg (condAt 28 w) (bitAt 23 w) (fieldAt 16 4 w) (fieldAt 12 4 w) (fieldAt 7 5 w) (shiftAt 5 w) (fieldAt 0 4 w)⟩,
   ⟨"STRB.imm.pre", [⟨27, 24, 5⟩, ⟨22, 22, 1⟩, ⟨20, 20, 0⟩],
    fun w => .strbImmPre (condAt 28 w) (bitAt 23 w) (bitAt 21 w) (fieldAt 16 4 w) (fieldAt 12 4 w) (fieldAt 0 12 w)⟩,
   ⟨"STRB.imm.post", [⟨27, 24, 4⟩, ⟨22, 20, 4⟩],
    fun w => .strbImmPost (condAt 28 w) (bitAt 23 w) (fieldAt 16 4 w) (fieldAt 12 4 w) (fieldAt 0 12 w)⟩,
   ⟨"STRB.reg.pre", [⟨27, 24, 7⟩, ⟨22, 22, 1⟩, ⟨20, 20, 0⟩, ⟨4, 4, 0⟩],
    fun w => .strbRegPre (condAt 28 w) (bitAt 23 w) (bitAt 21 w) (fieldAt 16 4 w) (fieldAt 12 4 w) (fieldAt 7 5 w) (shiftAt 5 w) (fieldAt 0 4 w)⟩,
   ⟨"STRB.reg.post", [⟨27, 24, 6⟩, ⟨22, 20, 4⟩, ⟨4, 4, 0⟩],
    fun w => .strbRegPost (condAt 28 w) (bitAt 23 w) (fieldAt 16 4 w) (fieldAt 12 4 w) (fieldAt 7 5 w) (shiftAt 5 w) (fieldAt 0 4 w)⟩,
   ⟨"STRBT.imm", [⟨27, 24, 4⟩, ⟨22, 20, 6⟩],
    fun w => .strbtImm (condAt 28 w) (bitAt 23 w) (fieldAt 16 4 w) (fieldAt 12 4 w) (fieldAt 0 12 w)⟩,
   ⟨"STRBT.reg", [⟨27, 24, 6⟩, ⟨22, 20, 6⟩, ⟨4, 4, 0⟩],
    fun w => .strbtReg (condAt 28 w) (bitAt 23 w) (fieldAt 16 4 w) (fieldAt 12 4 w) (fieldAt 7 5 w) (shiftAt 5 w) (fieldAt 0 4 w)⟩,
   ⟨"LDRB.imm.pre", [⟨27, 24, 5⟩, ⟨22, 22, 1⟩, ⟨20, 20, 1⟩],
    fun w => .ldrbImmPre (condAt 28 w) (bitAt 23 w) (bitAt 21 w) (fieldAt 16 4 w) (fieldAt 12 4 w) (fieldAt 0 12 w)⟩,
   ⟨"LDRB.imm.post", [⟨27, 24, 4⟩, ⟨22, 20, 5⟩],
    fun w => .ldrbImmPost (condAt 28 w) (bitAt 23 w) (fieldAt 16 4 w) (fieldAt 12 4 w) (fieldAt 0 12 w)⟩,
   ⟨"LDRB.reg.pre", [⟨27, 24, 7⟩, ⟨22, 22, 1⟩, ⟨20, 20, 1⟩, ⟨4, 4, 0⟩],
    fun w => .ldrbRegPre (condAt 28 w) (bitAt 23 w) (bitAt 21 w) (fieldAt 16 4 w) (fieldAt 12 4 w) (fieldAt 7 5 w) (shiftAt 5 w) (fieldAt 0 4 w)⟩,
   ⟨"LDRB.reg.post", [⟨27, 24, 6⟩, ⟨22, 20, 5⟩, ⟨4, 4, 0⟩],
    fun w => .ldrbRegPost (condAt 28 w) (bitAt 23 w) (fieldAt 16 4 w) (fieldAt 12 4 w) (fieldAt 7 5 w) (shiftAt 5 w) (fieldAt 0 4 w)⟩,
   ⟨"LDRBT.imm", [⟨27, 24, 4⟩, ⟨22, 20, 7⟩],
    fun w => .ldrbtImm (condAt 28 w) (bitAt 23 w) (fieldAt 16 4 w) (fieldAt 12 4 w) (fieldAt 0 12 w)⟩,
   ⟨"LDRBT.reg", [⟨27, 24, 6⟩, ⟨22, 20, 7⟩, ⟨4, 4, 0⟩],
    fun w => .ldrbtReg (condAt 28 w) (bitAt 23 w) (fieldAt 16 4 w) (fieldAt 12 4 w) (fieldAt 7 5 w) (shiftAt 5 w) (fieldAt 0 4 w)⟩,
   ⟨"UND", [⟨27, 25, 3⟩, ⟨4, 4, 1⟩],
    fun w => .und (condAt 28 w) (fieldAt 5 20 w) (fieldAt 0 4 w)⟩]

/-- Rows `STM` to `SWI` of the opcode table. -/
def wideRows7 : List (Row 32) :=
  [
   ⟨"STM", [⟨27, 25, 4⟩, ⟨22, 22, 0⟩, ⟨20, 20, 0⟩],
    fun w => .stm (condAt 28 w) (bitAt 24 w) (bitAt 23 w) (bitAt 21 w) (fieldAt 16 4 w) (fieldAt 0 16 w)⟩,
   ⟨"LDM", [⟨27, 25, 4⟩, ⟨22, 22, 0⟩, ⟨20, 20, 1⟩],
    fun w => .ldm (condAt 28 w) (bitAt 24 w) (bitAt 23 w) (bitAt 21 w) (fieldAt 16 4 w) (fieldAt 0 16 w)⟩,
   ⟨"STM.user", [⟨27, 25, 4⟩, ⟨22, 22, 1⟩, ⟨20, 20, 0⟩],
    fun w => .stmUser (condAt 28 w) (bitAt 24 w) (bitAt 23 w) (bitAt 21 w) (fieldAt 16 4 w) (fieldAt 0 16 w)⟩,
   ⟨"LDM.user", [⟨27, 25, 4⟩, ⟨22, 22, 1⟩, ⟨20, 20, 1⟩, ⟨15, 15, 0⟩],
    fun w => .ldmUser (condAt 28 w) (bitAt 24 w) (bitAt 23 w) (bitAt 21 w) (fieldAt 16 4 w) (fieldAt 0 15 w)⟩,
   ⟨"LDM.cpsr", [⟨27, 25, 4⟩, ⟨22, 22, 1⟩, ⟨20, 20, 1⟩, ⟨15, 15, 1⟩],
    fun w => .ldmCpsr (condAt 28 w) (bitAt 24 w) (bitAt 23 w) (bitAt 21 w) (fieldAt 16 4 w) (fieldAt 0 15 w)⟩,
   ⟨"B", [⟨27, 24, 10⟩],
    fun w => .b (condAt 28 w) (fieldAt 0 24 w)⟩,
   ⟨"BL", [⟨27, 24, 11⟩],
    fun w => .bl (condAt 28 w) (fieldAt 0 24 w)⟩,
   ⟨"STC", [⟨27, 25, 6⟩, ⟨20, 20, 0⟩],
    fun w => .stc (condAt 28 w) (bitAt 24 w) (bitAt 23 w) (bitAt 22 w) (bitAt 21 w) (fieldAt 16 4 w) (fieldAt 12 4 w) (fieldAt 8 4 w) (fieldAt 0 8 w)⟩,
   ⟨"LDC", [⟨27, 25, 6⟩, ⟨20, 20, 1⟩],
    fun w => .ldc (condAt 28 w) (bitAt 24 w) (bitAt 23 w) (bitAt 22 w) (bitAt 21 w) (fieldAt 16 4 w) (fieldAt 12 4 w) (fieldAt 8 4 w) (fieldAt 0 8 w)⟩,
   ⟨"CDP", [⟨27, 24, 14⟩, ⟨4, 4, 0⟩],
    fun w => .cdp (condAt 28 w) (fieldAt 20 4 w) (fieldAt 16 4 w) (fieldAt 12 4 w) (fieldAt 8 4 w) (fieldAt 5 3 w) (fieldAt 0 4 w)⟩,
   ⟨"MCR", [⟨27, 24, 14⟩, ⟨20, 20, 0⟩, ⟨4, 4, 1⟩],
    fun w => .mcr (condAt 28 w) (fieldAt 21 3 w) (fieldAt 16 4 w) (fieldAt 12 4 w) (fieldAt 8 4 w) (fieldAt 5 3 w) (fieldAt 0 4 w)⟩,
   ⟨"MRC", [⟨27, 24, 14⟩, ⟨20, 20, 1⟩, ⟨4, 4, 1⟩],
    fun w => .mrc (condAt 28 w) (fieldAt 21 3 w) (fieldAt 16 4 w) (fieldAt 12 4 w) (fieldAt 8 4 w) (fieldAt 5 3 w) (fieldAt 0 4 w)⟩,
   ⟨"SWI", [⟨27, 24, 15⟩],
    fun w => .swi (condAt 28 w) (fieldAt 0 24 w)⟩]

/-- The wide rows of the opcode table (R114, R115). -/
def wideRows : List (Row 32) :=
  wideRows1 ++ wideRows2 ++ wideRows3 ++ wideRows4 ++ wideRows5 ++ wideRows6 ++ wideRows7

/-- Rows `T.LSL.imm` to `T.ASR.reg` of the opcode table. -/
def narrowRows1 : List (Row 16) :=
  [
   ⟨"T.LSL.imm", [⟨15, 11, 0⟩],
    fun w => .tLslImm (fieldAt 6 5 w) (fieldAt 3 3 w) (fieldAt 0 3 w)⟩,
   ⟨"T.LSR.imm", [⟨15, 11, 1⟩],
    fun w => .tLsrImm (fieldAt 6 5 w) (fieldAt 3 3 w) (fieldAt 0 3 w)⟩,
   ⟨"T.ASR.imm", [⟨15, 11, 2⟩],
    fun w => .tAsrImm (fieldAt 6 5 w) (fieldAt 3 3 w) (fieldAt 0 3 w)⟩,
   ⟨"T.ADD.reg", [⟨15, 9, 12⟩],
    fun w => .tAddReg (fieldAt 6 3 w) (fieldAt 3 3 w) (fieldAt 0 3 w)⟩,
   ⟨"T.SUB.reg", [⟨15, 9, 13⟩],
    fun w => .tSubReg (fieldAt 6 3 w) (fieldAt 3 3 w) (fieldAt 0 3 w)⟩,
   ⟨"T.ADD.imm3", [⟨15, 9, 14⟩],
    fun w => .tAddImm3 (fieldAt 6 3 w) (fieldAt 3 3 w) (fieldAt 0 3 w)⟩,
   ⟨"T.SUB.imm3", [⟨15, 9, 15⟩],
    fun w => .tSubImm3 (fieldAt 6 3 w) (fieldAt 3 3 w) (fieldAt 0 3 w)⟩,
   ⟨"T.MOV.imm8", [⟨15, 11, 4⟩],
    fun w => .tMovImm8 (fieldAt 8 3 w) (fieldAt 0 8 w)⟩,
   ⟨"T.CMP.imm8", [⟨15, 11, 5⟩],
    fun w => .tCmpImm8 (fieldAt 8 3 w) (fieldAt 0 8 w)⟩,
   ⟨"T.ADD.imm8", [⟨15, 11, 6⟩],
    fun w => .tAddImm8 (fieldAt 8 3 w) (fieldAt 0 8 w)⟩,
   ⟨"T.SUB.imm8", [⟨15, 11, 7⟩],
    fun w => .tSubImm8 (fieldAt 8 3 w) (fieldAt 0 8 w)⟩,
   ⟨"T.AND", [⟨15, 6, 256⟩],
    fun w => .tAnd (fieldAt 3 3 w) (fieldAt 0 3 w)⟩,
   ⟨"T.EOR", [⟨15, 6, 257⟩],
    fun w => .tEor (fieldAt 3 3 w) (fieldAt 0 3 w)⟩,
   ⟨"T.LSL.reg", [⟨15, 6, 258⟩],
    fun w => .tLslReg (fieldAt 3 3 w) (fieldAt 0 3 w)⟩,
   ⟨"T.LSR.reg", [⟨15, 6, 259⟩],
    fun w => .tLsrReg (fieldAt 3 3 w) (fieldAt 0 3 w)⟩,
   ⟨"T.ASR.reg", [⟨15, 6, 260⟩],
    fun w => .tAsrReg (fieldAt 3 3 w) (fieldAt 0 3 w)⟩]

/-- Rows `T.ADC` to `T.LDR.pc` of the opcode table. -/
def narrowRows2 : List (Row 16) :=
  [
   ⟨"T.ADC", [⟨15, 6, 261⟩],
    fun w => .tAdc (fieldAt 3 3 w) (fieldAt 0 3 w)⟩,
   ⟨"T.SBC", [⟨15, 6, 262⟩],
    fun w => .tSbc (fieldAt 3 3 w) (fieldAt 0 3 w)⟩,
   ⟨"T.ROR", [⟨15, 6, 263⟩],
    fun w => .tRor (fieldAt 3 3 w) (fieldAt 0 3 w)⟩,
   ⟨"T.TST", [⟨15, 6, 264⟩],
    fun w => .tTst (fieldAt 3 3 w) (fieldAt 0 3 w)⟩,
   ⟨"T.NEG", [⟨15, 6, 265⟩],
    fun w => .tNeg (fieldAt 3 3 w) (fieldAt 0 3 w)⟩,
   ⟨"T.CMP.reg", [⟨15, 6, 266⟩],
    fun w => .tCmpReg (fieldAt 3 3 w) (fieldAt 0 3 w)⟩,
   ⟨"T.CMN", [⟨15, 6, 267⟩],
    fun w => .tCmn (fieldAt 3 3 w) (fieldAt 0 3 w)⟩,
   ⟨"T.ORR", [⟨15, 6, 268⟩],
    fun w => .tOrr (fieldAt 3 3 w) (fieldAt 0 3 w)⟩,
   ⟨"T.MUL", [⟨15, 6, 269⟩],
    fun w => .tMul (fieldAt 3 3 w) (fieldAt 0 3 w)⟩,
   ⟨"T.BIC", [⟨15, 6, 270⟩],
    fun w => .tBic (fieldAt 3 3 w) (fieldAt 0 3 w)⟩,
   ⟨"T.MVN", [⟨15, 6, 271⟩],
    fun w => .tMvn (fieldAt 3 3 w) (fieldAt 0 3 w)⟩,
   ⟨"T.ADD.hi", [⟨15, 8, 68⟩],
    fun w => .tAddHi (bitAt 7 w) (bitAt 6 w) (fieldAt 3 3 w) (fieldAt 0 3 w)⟩,
   ⟨"T.CMP.hi", [⟨15, 8, 69⟩],
    fun w => .tCmpHi (bitAt 7 w) (bitAt 6 w) (fieldAt 3 3 w) (fieldAt 0 3 w)⟩,
   ⟨"T.MOV.hi", [⟨15, 8, 70⟩],
    fun w => .tMovHi (bitAt 7 w) (bitAt 6 w) (fieldAt 3 3 w) (fieldAt 0 3 w)⟩,
   ⟨"T.BX", [⟨15, 7, 142⟩],
    fun w => .tBx (bitAt 6 w) (fieldAt 3 3 w) (fieldAt 0 3 w)⟩,
   ⟨"T.LDR.pc", [⟨15, 11, 9⟩],
    fun w => .tLdrPc (fieldAt 8 3 w) (fieldAt 0 8 w)⟩]

/-- Rows `T.STR.reg` to `T.LDR.sp` of the opcode table. -/
def narrowRows3 : List (Row 16) :=
  [
   ⟨"T.STR.reg", [⟨15, 9, 40⟩],
    fun w => .tStrReg (fieldAt 6 3 w) (fieldAt 3 3 w) (fieldAt 0 3 w)⟩,
   ⟨"T.STRB.reg", [⟨15, 9, 42⟩],
    fun w => .tStrbReg (fieldAt 6 3 w) (fieldAt 3 3 w) (fieldAt 0 3 w)⟩,
   ⟨"T.LDR.reg", [⟨15, 9, 44⟩],
    fun w => .tLdrReg (fieldAt 6 3 w) (fieldAt 3 3 w) (fieldAt 0 3 w)⟩,
   ⟨"T.LDRB.reg", [⟨15, 9, 46⟩],
    fun w => .tLdrbReg (fieldAt 6 3 w) (fieldAt 3 3 w) (fieldAt 0 3 w)⟩,
   ⟨"T.STRH.reg", [⟨15, 9, 41⟩],
    fun w => .tStrhReg (fieldAt 6 3 w) (fieldAt 3 3 w) (fieldAt 0 3 w)⟩,
   ⟨"T.LDSB.reg", [⟨15, 9, 43⟩],
    fun w => .tLdsbReg (fieldAt 6 3 w) (fieldAt 3 3 w) (fieldAt 0 3 w)⟩,
   ⟨"T.LDRH.reg", [⟨15, 9, 45⟩],
    fun w => .tLdrhReg (fieldAt 6 3 w) (fieldAt 3 3 w) (fieldAt 0 3 w)⟩,
   ⟨"T.LDSH.reg", [⟨15, 9, 47⟩],
    fun w => .tLdshReg (fieldAt 6 3 w) (fieldAt 3 3 w) (fieldAt 0 3 w)⟩,
   ⟨"T.STR.imm", [⟨15, 11, 12⟩],
    fun w => .tStrImm (fieldAt 6 5 w) (fieldAt 3 3 w) (fieldAt 0 3 w)⟩,
   ⟨"T.LDR.imm", [⟨15, 11, 13⟩],
    fun w => .tLdrImm (fieldAt 6 5 w) (fieldAt 3 3 w) (fieldAt 0 3 w)⟩,
   ⟨"T.STRB.imm", [⟨15, 11, 14⟩],
    fun w => .tStrbImm (fieldAt 6 5 w) (fieldAt 3 3 w) (fieldAt 0 3 w)⟩,
   ⟨"T.LDRB.imm", [⟨15, 11, 15⟩],
    fun w => .tLdrbImm (fieldAt 6 5 w) (fieldAt 3 3 w) (fieldAt 0 3 w)⟩,
   ⟨"T.STRH.imm", [⟨15, 11, 16⟩],
    fun w => .tStrhImm (fieldAt 6 5 w) (fieldAt 3 3 w) (fieldAt 0 3 w)⟩,
   ⟨"T.LDRH.imm", [⟨15, 11, 17⟩],
    fun w => .tLdrhImm (fieldAt 6 5 w) (fieldAt 3 3 w) (fieldAt 0 3 w)⟩,
   ⟨"T.STR.sp", [⟨15, 11, 18⟩],
    fun w => .tStrSp (fieldAt 8 3 w) (fieldAt 0 8 w)⟩,
   ⟨"T.LDR.sp", [⟨15, 11, 19⟩],
    fun w => .tLdrSp (fieldAt 8 3 w) (fieldAt 0 8 w)⟩]

/-- Rows `T.ADD.pc` to `T.BVC` of the opcode table. -/
def narrowRows4 : List (Row 16) :=
  [
   ⟨"T.ADD.pc", [⟨15, 11, 20⟩],
    fun w => .tAddPc (fieldAt 8 3 w) (fieldAt 0 8 w)⟩,
   ⟨"T.ADD.sp", [⟨15, 11, 21⟩],
    fun w => .tAddSp (fieldAt 8 3 w) (fieldAt 0 8 w)⟩,
   ⟨"T.ADD.spimm", [⟨15, 7, 352⟩],
    fun w => .tAddSpimm (fieldAt 0 7 w)⟩,
   ⟨"T.SUB.spimm", [⟨15, 7, 353⟩],
    fun w => .tSubSpimm (fieldAt 0 7 w)⟩,
   ⟨"T.PUSH", [⟨15, 9, 90⟩],
    fun w => .tPush (bitAt 8 w) (fieldAt 0 8 w)⟩,
   ⟨"T.POP", [⟨15, 9, 94⟩],
    fun w => .tPop (bitAt 8 w) (fieldAt 0 8 w)⟩,
   ⟨"T.STMIA", [⟨15, 11, 24⟩],
    fun w => .tStmia (fieldAt 8 3 w) (fieldAt 0 8 w)⟩,
   ⟨"T.LDMIA", [⟨15, 11, 25⟩],
    fun w => .tLdmia (fieldAt 8 3 w) (fieldAt 0 8 w)⟩,
   ⟨"T.BEQ", [⟨15, 8, 208⟩],
    fun w => .tBeq (fieldAt 0 8 w)⟩,
   ⟨"T.BNE", [⟨15, 8, 209⟩],
    fun w => .tBne (fieldAt 0 8 w)⟩,
   ⟨"T.BCS", [⟨15, 8, 210⟩],
    fun w => .tBcs (fieldAt 0 8 w)⟩,
   ⟨"T.BCC", [⟨15, 8, 211⟩],
    fun w => .tBcc (fieldAt 0 8 w)⟩,
   ⟨"T.BMI", [⟨15, 8, 212⟩],
    fun w => .tBmi (fieldAt 0 8 w)⟩,
   ⟨"T.BPL", [⟨15, 8, 213⟩],
    fun w => .tBpl (fieldAt 0 8 w)⟩,
   ⟨"T.BVS", [⟨15, 8, 214⟩],
    fun w => .tBvs (fieldAt 0 8 w)⟩,
   ⟨"T.BVC", [⟨15, 8, 215⟩],
    fun w => .tBvc (fieldAt 0 8 w)⟩]

/-- Rows `T.BHI` to `T.BL.lo` of the opcode table. -/
def narrowRows5 : List (Row 16) :=
  [
   ⟨"T.BHI", [⟨15, 8, 216⟩],
    fun w => .tBhi (fieldAt 0 8 w)⟩,
   ⟨"T.BLS", [⟨15, 8, 217⟩],
    fun w => .tBls (fieldAt 0 8 w)⟩,
   ⟨"T.BGE", [⟨15, 8, 218⟩],
    fun w => .tBge (fieldAt 0 8 w)⟩,
   ⟨"T.BLT", [⟨15, 8, 219⟩],
    fun w => .tBlt (fieldAt 0 8 w)⟩,
   ⟨"T.BGT", [⟨15, 8, 220⟩],
    fun w => .tBgt (fieldAt 0 8 w)⟩,
   ⟨"T.BLE", [⟨15, 8, 221⟩],
    fun w => .tBle (fieldAt 0 8 w)⟩,
   ⟨"T.SWI", [⟨15, 8, 223⟩],
    fun w => .tSwi (fieldAt 0 8 w)⟩,
   ⟨"T.B", [⟨15, 11, 28⟩],
    fun w => .tB (fieldAt 0 11 w)⟩,
   ⟨"T.BL.hi", [⟨15, 11, 30⟩],
    fun w => .tBlHi (fieldAt 0 11 w)⟩,
   ⟨"T.BL.lo", [⟨15, 11, 31⟩],
    fun w => .tBlLo (fieldAt 0 11 w)⟩]

/-- The narrow rows of the opcode table (R125, R126). -/
def narrowRows : List (Row 16) :=
  narrowRows1 ++ narrowRows2 ++ narrowRows3 ++ narrowRows4 ++ narrowRows5

/-! ## The decoder -/

/-- A wide word's instruction, none where no row fits: the word is reserved (R137). -/
def decodeWide (w : Word) : Option Instr := (wideRows.find? (·.fits w)).map (·.build w)

/-- A narrow halfword's instruction, none where no row fits: the halfword is reserved (R138). -/
def decodeNarrow (h : Half) : Option Instr := (narrowRows.find? (·.fits h)).map (·.build h)

/-- Why bytes give no instruction. -/
inductive Reject where
  /-- A wide word of the reserved space (R137); the machine raises Undefined-instruction for it. -/
  | reservedWide (w : Word)
  /-- A narrow halfword of the reserved space (R138); the machine raises Undefined-instruction for it. -/
  | reservedNarrow (h : Half)
  /-- Fewer bytes than one instruction. -/
  | truncated
  deriving DecidableEq, Repr

/-- The halfword of two bytes, the first at the lower address (R112). -/
def halfOfBytes (b0 b1 : Byte) : Half := b1 ++ b0

/-- The word of four bytes, the first at the lowest address (R112). -/
def wordOfBytes (b0 b1 b2 b3 : Byte) : Word := (b3 ++ b2 ++ b1 ++ b0 : BitVec 32)

/-- The instruction at the head of a list of bytes and the bytes after it; `narrow` is the width flag (R110). -/
def decode (narrow : Bool) (bytes : List Byte) : Except Reject (Instr × List Byte) :=
  match narrow, bytes with
  | true, b0 :: b1 :: rest =>
    match decodeNarrow (halfOfBytes b0 b1) with
    | some i => .ok (i, rest)
    | none => .error (.reservedNarrow (halfOfBytes b0 b1))
  | false, b0 :: b1 :: b2 :: b3 :: rest =>
    match decodeWide (wordOfBytes b0 b1 b2 b3) with
    | some i => .ok (i, rest)
    | none => .error (.reservedWide (wordOfBytes b0 b1 b2 b3))
  | _, _ => .error .truncated

/-- Byte `i` of a number, the least significant first. -/
def byteOf (n i : Nat) : Byte := BitVec.ofNat 8 (n / 2 ^ (8 * i))

/-- The instruction read from a word given as the opcode table numbers its bits: 16 bits narrow, else wide.
The bytes are laid out little-endian (R112) and given to the decoder. -/
def decodeTableWord (nbits w : Nat) : Option Instr :=
  let bytes := if nbits ≤ 16 then [byteOf w 0, byteOf w 1] else [byteOf w 0, byteOf w 1, byteOf w 2, byteOf w 3]
  match decode (nbits ≤ 16) bytes with
  | .ok (i, _) => some i
  | .error _ => none

/-! ## The encoder -/

/-- The code of an instruction: a wide word or a narrow halfword. -/
inductive Code where
  | wide (w : Word)
  | narrow (h : Half)
  deriving DecidableEq, Repr

/-- The number that has each value at its place: a list of (lowest bit, value). -/
def placed : List (Nat × Nat) → Nat
  | [] => 0
  | f :: fs => f.2 * 2 ^ f.1 + placed fs

/-- A wide code from a row's match value and its fields. -/
def wideCode (fixed : Nat) (fields : List (Nat × Nat)) : Code := .wide (BitVec.ofNat 32 (fixed + placed fields))

/-- A narrow code from a row's match value and its fields. -/
def narrowCode (fixed : Nat) (fields : List (Nat × Nat)) : Code := .narrow (BitVec.ofNat 16 (fixed + placed fields))

/-- The code of an instruction: the row's match value and each field at its place (R114, R125). -/
def encode : Instr → Code
  | .andImm c s rn rd rot imm8 =>
    wideCode 0x02000000 [(28, c.code), (20, s.toNat), (16, rn.toNat), (12, rd.toNat), (8, rot.toNat), (0, imm8.toNat)]
  | .andRegIs c s rn rd shamt sh rm =>
    wideCode 0x00000000 [(28, c.code), (20, s.toNat), (16, rn.toNat), (12, rd.toNat), (7, shamt.toNat), (5, sh.code), (0, rm.toNat)]
  | .andRegRs c s rn rd rs sh rm =>
    wideCode 0x00000010 [(28, c.code), (20, s.toNat), (16, rn.toNat), (12, rd.toNat), (8, rs.toNat), (5, sh.code), (0, rm.toNat)]
  | .eorImm c s rn rd rot imm8 =>
    wideCode 0x02200000 [(28, c.code), (20, s.toNat), (16, rn.toNat), (12, rd.toNat), (8, rot.toNat), (0, imm8.toNat)]
  | .eorRegIs c s rn rd shamt sh rm =>
    wideCode 0x00200000 [(28, c.code), (20, s.toNat), (16, rn.toNat), (12, rd.toNat), (7, shamt.toNat), (5, sh.code), (0, rm.toNat)]
  | .eorRegRs c s rn rd rs sh rm =>
    wideCode 0x00200010 [(28, c.code), (20, s.toNat), (16, rn.toNat), (12, rd.toNat), (8, rs.toNat), (5, sh.code), (0, rm.toNat)]
  | .subImm c s rn rd rot imm8 =>
    wideCode 0x02400000 [(28, c.code), (20, s.toNat), (16, rn.toNat), (12, rd.toNat), (8, rot.toNat), (0, imm8.toNat)]
  | .subRegIs c s rn rd shamt sh rm =>
    wideCode 0x00400000 [(28, c.code), (20, s.toNat), (16, rn.toNat), (12, rd.toNat), (7, shamt.toNat), (5, sh.code), (0, rm.toNat)]
  | .subRegRs c s rn rd rs sh rm =>
    wideCode 0x00400010 [(28, c.code), (20, s.toNat), (16, rn.toNat), (12, rd.toNat), (8, rs.toNat), (5, sh.code), (0, rm.toNat)]
  | .rsbImm c s rn rd rot imm8 =>
    wideCode 0x02600000 [(28, c.code), (20, s.toNat), (16, rn.toNat), (12, rd.toNat), (8, rot.toNat), (0, imm8.toNat)]
  | .rsbRegIs c s rn rd shamt sh rm =>
    wideCode 0x00600000 [(28, c.code), (20, s.toNat), (16, rn.toNat), (12, rd.toNat), (7, shamt.toNat), (5, sh.code), (0, rm.toNat)]
  | .rsbRegRs c s rn rd rs sh rm =>
    wideCode 0x00600010 [(28, c.code), (20, s.toNat), (16, rn.toNat), (12, rd.toNat), (8, rs.toNat), (5, sh.code), (0, rm.toNat)]
  | .addImm c s rn rd rot imm8 =>
    wideCode 0x02800000 [(28, c.code), (20, s.toNat), (16, rn.toNat), (12, rd.toNat), (8, rot.toNat), (0, imm8.toNat)]
  | .addRegIs c s rn rd shamt sh rm =>
    wideCode 0x00800000 [(28, c.code), (20, s.toNat), (16, rn.toNat), (12, rd.toNat), (7, shamt.toNat), (5, sh.code), (0, rm.toNat)]
  | .addRegRs c s rn rd rs sh rm =>
    wideCode 0x00800010 [(28, c.code), (20, s.toNat), (16, rn.toNat), (12, rd.toNat), (8, rs.toNat), (5, sh.code), (0, rm.toNat)]
  | .adcImm c s rn rd rot imm8 =>
    wideCode 0x02A00000 [(28, c.code), (20, s.toNat), (16, rn.toNat), (12, rd.toNat), (8, rot.toNat), (0, imm8.toNat)]
  | .adcRegIs c s rn rd shamt sh rm =>
    wideCode 0x00A00000 [(28, c.code), (20, s.toNat), (16, rn.toNat), (12, rd.toNat), (7, shamt.toNat), (5, sh.code), (0, rm.toNat)]
  | .adcRegRs c s rn rd rs sh rm =>
    wideCode 0x00A00010 [(28, c.code), (20, s.toNat), (16, rn.toNat), (12, rd.toNat), (8, rs.toNat), (5, sh.code), (0, rm.toNat)]
  | .sbcImm c s rn rd rot imm8 =>
    wideCode 0x02C00000 [(28, c.code), (20, s.toNat), (16, rn.toNat), (12, rd.toNat), (8, rot.toNat), (0, imm8.toNat)]
  | .sbcRegIs c s rn rd shamt sh rm =>
    wideCode 0x00C00000 [(28, c.code), (20, s.toNat), (16, rn.toNat), (12, rd.toNat), (7, shamt.toNat), (5, sh.code), (0, rm.toNat)]
  | .sbcRegRs c s rn rd rs sh rm =>
    wideCode 0x00C00010 [(28, c.code), (20, s.toNat), (16, rn.toNat), (12, rd.toNat), (8, rs.toNat), (5, sh.code), (0, rm.toNat)]
  | .rscImm c s rn rd rot imm8 =>
    wideCode 0x02E00000 [(28, c.code), (20, s.toNat), (16, rn.toNat), (12, rd.toNat), (8, rot.toNat), (0, imm8.toNat)]
  | .rscRegIs c s rn rd shamt sh rm =>
    wideCode 0x00E00000 [(28, c.code), (20, s.toNat), (16, rn.toNat), (12, rd.toNat), (7, shamt.toNat), (5, sh.code), (0, rm.toNat)]
  | .rscRegRs c s rn rd rs sh rm =>
    wideCode 0x00E00010 [(28, c.code), (20, s.toNat), (16, rn.toNat), (12, rd.toNat), (8, rs.toNat), (5, sh.code), (0, rm.toNat)]
  | .tstImm c rn sbz rot imm8 =>
    wideCode 0x03100000 [(28, c.code), (16, rn.toNat), (12, sbz.toNat), (8, rot.toNat), (0, imm8.toNat)]
  | .tstRegIs c rn sbz shamt sh rm =>
    wideCode 0x01100000 [(28, c.code), (16, rn.toNat), (12, sbz.toNat), (7, shamt.toNat), (5, sh.code), (0, rm.toNat)]
  | .tstRegRs c rn sbz rs sh rm =>
    wideCode 0x01100010 [(28, c.code), (16, rn.toNat), (12, sbz.toNat), (8, rs.toNat), (5, sh.code), (0, rm.toNat)]
  | .teqImm c rn sbz rot imm8 =>
    wideCode 0x03300000 [(28, c.code), (16, rn.toNat), (12, sbz.toNat), (8, rot.toNat), (0, imm8.toNat)]
  | .teqRegIs c rn sbz shamt sh rm =>
    wideCode 0x01300000 [(28, c.code), (16, rn.toNat), (12, sbz.toNat), (7, shamt.toNat), (5, sh.code), (0, rm.toNat)]
  | .teqRegRs c rn sbz rs sh rm =>
    wideCode 0x01300010 [(28, c.code), (16, rn.toNat), (12, sbz.toNat), (8, rs.toNat), (5, sh.code), (0, rm.toNat)]
  | .cmpImm c rn sbz rot imm8 =>
    wideCode 0x03500000 [(28, c.code), (16, rn.toNat), (12, sbz.toNat), (8, rot.toNat), (0, imm8.toNat)]
  | .cmpRegIs c rn sbz shamt sh rm =>
    wideCode 0x01500000 [(28, c.code), (16, rn.toNat), (12, sbz.toNat), (7, shamt.toNat), (5, sh.code), (0, rm.toNat)]
  | .cmpRegRs c rn sbz rs sh rm =>
    wideCode 0x01500010 [(28, c.code), (16, rn.toNat), (12, sbz.toNat), (8, rs.toNat), (5, sh.code), (0, rm.toNat)]
  | .cmnImm c rn sbz rot imm8 =>
    wideCode 0x03700000 [(28, c.code), (16, rn.toNat), (12, sbz.toNat), (8, rot.toNat), (0, imm8.toNat)]
  | .cmnRegIs c rn sbz shamt sh rm =>
    wideCode 0x01700000 [(28, c.code), (16, rn.toNat), (12, sbz.toNat), (7, shamt.toNat), (5, sh.code), (0, rm.toNat)]
  | .cmnRegRs c rn sbz rs sh rm =>
    wideCode 0x01700010 [(28, c.code), (16, rn.toNat), (12, sbz.toNat), (8, rs.toNat), (5, sh.code), (0, rm.toNat)]
  | .orrImm c s rn rd rot imm8 =>
    wideCode 0x03800000 [(28, c.code), (20, s.toNat), (16, rn.toNat), (12, rd.toNat), (8, rot.toNat), (0, imm8.toNat)]
  | .orrRegIs c s rn rd shamt sh rm =>
    wideCode 0x01800000 [(28, c.code), (20, s.toNat), (16, rn.toNat), (12, rd.toNat), (7, shamt.toNat), (5, sh.code), (0, rm.toNat)]
  | .orrRegRs c s rn rd rs sh rm =>
    wideCode 0x01800010 [(28, c.code), (20, s.toNat), (16, rn.toNat), (12, rd.toNat), (8, rs.toNat), (5, sh.code), (0, rm.toNat)]
  | .movImm c s sbz rd rot imm8 =>
    wideCode 0x03A00000 [(28, c.code), (20, s.toNat), (16, sbz.toNat), (12, rd.toNat), (8, rot.toNat), (0, imm8.toNat)]
  | .movRegIs c s sbz rd shamt sh rm =>
    wideCode 0x01A00000 [(28, c.code), (20, s.toNat), (16, sbz.toNat), (12, rd.toNat), (7, shamt.toNat), (5, sh.code), (0, rm.toNat)]
  | .movRegRs c s sbz rd rs sh rm =>
    wideCode 0x01A00010 [(28, c.code), (20, s.toNat), (16, sbz.toNat), (12, rd.toNat), (8, rs.toNat), (5, sh.code), (0, rm.toNat)]
  | .bicImm c s rn rd rot imm8 =>
    wideCode 0x03C00000 [(28, c.code), (20, s.toNat), (16, rn.toNat), (12, rd.toNat), (8, rot.toNat), (0, imm8.toNat)]
  | .bicRegIs c s rn rd shamt sh rm =>
    wideCode 0x01C00000 [(28, c.code), (20, s.toNat), (16, rn.toNat), (12, rd.toNat), (7, shamt.toNat), (5, sh.code), (0, rm.toNat)]
  | .bicRegRs c s rn rd rs sh rm =>
    wideCode 0x01C00010 [(28, c.code), (20, s.toNat), (16, rn.toNat), (12, rd.toNat), (8, rs.toNat), (5, sh.code), (0, rm.toNat)]
  | .mvnImm c s sbz rd rot imm8 =>
    wideCode 0x03E00000 [(28, c.code), (20, s.toNat), (16, sbz.toNat), (12, rd.toNat), (8, rot.toNat), (0, imm8.toNat)]
  | .mvnRegIs c s sbz rd shamt sh rm =>
    wideCode 0x01E00000 [(28, c.code), (20, s.toNat), (16, sbz.toNat), (12, rd.toNat), (7, shamt.toNat), (5, sh.code), (0, rm.toNat)]
  | .mvnRegRs c s sbz rd rs sh rm =>
    wideCode 0x01E00010 [(28, c.code), (20, s.toNat), (16, sbz.toNat), (12, rd.toNat), (8, rs.toNat), (5, sh.code), (0, rm.toNat)]
  | .mrsCpsr c rd =>
    wideCode 0x010F0000 [(28, c.code), (12, rd.toNat)]
  | .mrsSpsr c rd =>
    wideCode 0x014F0000 [(28, c.code), (12, rd.toNat)]
  | .msrRegCpsr c fmask rm =>
    wideCode 0x0120F000 [(28, c.code), (16, fmask.toNat), (0, rm.toNat)]
  | .msrRegSpsr c fmask rm =>
    wideCode 0x0160F000 [(28, c.code), (16, fmask.toNat), (0, rm.toNat)]
  | .msrImmCpsr c fmask rot imm8 =>
    wideCode 0x0320F000 [(28, c.code), (16, fmask.toNat), (8, rot.toNat), (0, imm8.toNat)]
  | .msrImmSpsr c fmask rot imm8 =>
    wideCode 0x0360F000 [(28, c.code), (16, fmask.toNat), (8, rot.toNat), (0, imm8.toNat)]
  | .mul c s rd sbz rs rm =>
    wideCode 0x00000090 [(28, c.code), (20, s.toNat), (16, rd.toNat), (12, sbz.toNat), (8, rs.toNat), (0, rm.toNat)]
  | .mla c s rd rn rs rm =>
    wideCode 0x00200090 [(28, c.code), (20, s.toNat), (16, rd.toNat), (12, rn.toNat), (8, rs.toNat), (0, rm.toNat)]
  | .umull c s rdHi rdLo rs rm =>
    wideCode 0x00800090 [(28, c.code), (20, s.toNat), (16, rdHi.toNat), (12, rdLo.toNat), (8, rs.toNat), (0, rm.toNat)]
  | .umlal c s rdHi rdLo rs rm =>
    wideCode 0x00A00090 [(28, c.code), (20, s.toNat), (16, rdHi.toNat), (12, rdLo.toNat), (8, rs.toNat), (0, rm.toNat)]
  | .smull c s rdHi rdLo rs rm =>
    wideCode 0x00C00090 [(28, c.code), (20, s.toNat), (16, rdHi.toNat), (12, rdLo.toNat), (8, rs.toNat), (0, rm.toNat)]
  | .smlal c s rdHi rdLo rs rm =>
    wideCode 0x00E00090 [(28, c.code), (20, s.toNat), (16, rdHi.toNat), (12, rdLo.toNat), (8, rs.toNat), (0, rm.toNat)]
  | .swp c rn rd rm =>
    wideCode 0x01000090 [(28, c.code), (16, rn.toNat), (12, rd.toNat), (0, rm.toNat)]
  | .swpb c rn rd rm =>
    wideCode 0x01400090 [(28, c.code), (16, rn.toNat), (12, rd.toNat), (0, rm.toNat)]
  | .bx c rm =>
    wideCode 0x012FFF10 [(28, c.code), (0, rm.toNat)]
  | .strhReg c p u w rn rd rm =>
    wideCode 0x000000B0 [(28, c.code), (24, p.toNat), (23, u.toNat), (21, w.toNat), (16, rn.toNat), (12, rd.toNat), (0, rm.toNat)]
  | .strhImm c p u w rn rd immH immL =>
    wideCode 0x004000B0 [(28, c.code), (24, p.toNat), (23, u.toNat), (21, w.toNat), (16, rn.toNat), (12, rd.toNat), (8, immH.toNat), (0, immL.toNat)]
  | .ldrhReg c p u w rn rd rm =>
    wideCode 0x001000B0 [(28, c.code), (24, p.toNat), (23, u.toNat), (21, w.toNat), (16, rn.toNat), (12, rd.toNat), (0, rm.toNat)]
  | .ldrhImm c p u w rn rd immH immL =>
    wideCode 0x005000B0 [(28, c.code), (24, p.toNat), (23, u.toNat), (21, w.toNat), (16, rn.toNat), (12, rd.toNat), (8, immH.toNat), (0, immL.toNat)]
  | .ldrsbReg c p u w rn rd rm =>
    wideCode 0x001000D0 [(28, c.code), (24, p.toNat), (23, u.toNat), (21, w.toNat), (16, rn.toNat), (12, rd.toNat), (0, rm.toNat)]
  | .ldrsbImm c p u w rn rd immH immL =>
    wideCode 0x005000D0 [(28, c.code), (24, p.toNat), (23, u.toNat), (21, w.toNat), (16, rn.toNat), (12, rd.toNat), (8, immH.toNat), (0, immL.toNat)]
  | .ldrshReg c p u w rn rd rm =>
    wideCode 0x001000F0 [(28, c.code), (24, p.toNat), (23, u.toNat), (21, w.toNat), (16, rn.toNat), (12, rd.toNat), (0, rm.toNat)]
  | .ldrshImm c p u w rn rd immH immL =>
    wideCode 0x005000F0 [(28, c.code), (24, p.toNat), (23, u.toNat), (21, w.toNat), (16, rn.toNat), (12, rd.toNat), (8, immH.toNat), (0, immL.toNat)]
  | .strImmPre c u w rn rd imm12 =>
    wideCode 0x05000000 [(28, c.code), (23, u.toNat), (21, w.toNat), (16, rn.toNat), (12, rd.toNat), (0, imm12.toNat)]
  | .strImmPost c u rn rd imm12 =>
    wideCode 0x04000000 [(28, c.code), (23, u.toNat), (16, rn.toNat), (12, rd.toNat), (0, imm12.toNat)]
  | .strRegPre c u w rn rd shamt sh rm =>
    wideCode 0x07000000 [(28, c.code), (23, u.toNat), (21, w.toNat), (16, rn.toNat), (12, rd.toNat), (7, shamt.toNat), (5, sh.code), (0, rm.toNat)]
  | .strRegPost c u rn rd shamt sh rm =>
    wideCode 0x06000000 [(28, c.code), (23, u.toNat), (16, rn.toNat), (12, rd.toNat), (7, shamt.toNat), (5, sh.code), (0, rm.toNat)]
  | .strtImm c u rn rd imm12 =>
    wideCode 0x04200000 [(28, c.code), (23, u.toNat), (16, rn.toNat), (12, rd.toNat), (0, imm12.toNat)]
  | .strtReg c u rn rd shamt sh rm =>
    wideCode 0x06200000 [(28, c.code), (23, u.toNat), (16, rn.toNat), (12, rd.toNat), (7, shamt.toNat), (5, sh.code), (0, rm.toNat)]
  | .ldrImmPre c u w rn rd imm12 =>
    wideCode 0x05100000 [(28, c.code), (23, u.toNat), (21, w.toNat), (16, rn.toNat), (12, rd.toNat), (0, imm12.toNat)]
  | .ldrImmPost c u rn rd imm12 =>
    wideCode 0x04100000 [(28, c.code), (23, u.toNat), (16, rn.toNat), (12, rd.toNat), (0, imm12.toNat)]
  | .ldrRegPre c u w rn rd shamt sh rm =>
    wideCode 0x07100000 [(28, c.code), (23, u.toNat), (21, w.toNat), (16, rn.toNat), (12, rd.toNat), (7, shamt.toNat), (5, sh.code), (0, rm.toNat)]
  | .ldrRegPost c u rn rd shamt sh rm =>
    wideCode 0x06100000 [(28, c.code), (23, u.toNat), (16, rn.toNat), (12, rd.toNat), (7, shamt.toNat), (5, sh.code), (0, rm.toNat)]
  | .ldrtImm c u rn rd imm12 =>
    wideCode 0x04300000 [(28, c.code), (23, u.toNat), (16, rn.toNat), (12, rd.toNat), (0, imm12.toNat)]
  | .ldrtReg c u rn rd shamt sh rm =>
    wideCode 0x06300000 [(28, c.code), (23, u.toNat), (16, rn.toNat), (12, rd.toNat), (7, shamt.toNat), (5, sh.code), (0, rm.toNat)]
  | .strbImmPre c u w rn rd imm12 =>
    wideCode 0x05400000 [(28, c.code), (23, u.toNat), (21, w.toNat), (16, rn.toNat), (12, rd.toNat), (0, imm12.toNat)]
  | .strbImmPost c u rn rd imm12 =>
    wideCode 0x04400000 [(28, c.code), (23, u.toNat), (16, rn.toNat), (12, rd.toNat), (0, imm12.toNat)]
  | .strbRegPre c u w rn rd shamt sh rm =>
    wideCode 0x07400000 [(28, c.code), (23, u.toNat), (21, w.toNat), (16, rn.toNat), (12, rd.toNat), (7, shamt.toNat), (5, sh.code), (0, rm.toNat)]
  | .strbRegPost c u rn rd shamt sh rm =>
    wideCode 0x06400000 [(28, c.code), (23, u.toNat), (16, rn.toNat), (12, rd.toNat), (7, shamt.toNat), (5, sh.code), (0, rm.toNat)]
  | .strbtImm c u rn rd imm12 =>
    wideCode 0x04600000 [(28, c.code), (23, u.toNat), (16, rn.toNat), (12, rd.toNat), (0, imm12.toNat)]
  | .strbtReg c u rn rd shamt sh rm =>
    wideCode 0x06600000 [(28, c.code), (23, u.toNat), (16, rn.toNat), (12, rd.toNat), (7, shamt.toNat), (5, sh.code), (0, rm.toNat)]
  | .ldrbImmPre c u w rn rd imm12 =>
    wideCode 0x05500000 [(28, c.code), (23, u.toNat), (21, w.toNat), (16, rn.toNat), (12, rd.toNat), (0, imm12.toNat)]
  | .ldrbImmPost c u rn rd imm12 =>
    wideCode 0x04500000 [(28, c.code), (23, u.toNat), (16, rn.toNat), (12, rd.toNat), (0, imm12.toNat)]
  | .ldrbRegPre c u w rn rd shamt sh rm =>
    wideCode 0x07500000 [(28, c.code), (23, u.toNat), (21, w.toNat), (16, rn.toNat), (12, rd.toNat), (7, shamt.toNat), (5, sh.code), (0, rm.toNat)]
  | .ldrbRegPost c u rn rd shamt sh rm =>
    wideCode 0x06500000 [(28, c.code), (23, u.toNat), (16, rn.toNat), (12, rd.toNat), (7, shamt.toNat), (5, sh.code), (0, rm.toNat)]
  | .ldrbtImm c u rn rd imm12 =>
    wideCode 0x04700000 [(28, c.code), (23, u.toNat), (16, rn.toNat), (12, rd.toNat), (0, imm12.toNat)]
  | .ldrbtReg c u rn rd shamt sh rm =>
    wideCode 0x06700000 [(28, c.code), (23, u.toNat), (16, rn.toNat), (12, rd.toNat), (7, shamt.toNat), (5, sh.code), (0, rm.toNat)]
  | .und c xHi xLo =>
    wideCode 0x06000010 [(28, c.code), (5, xHi.toNat), (0, xLo.toNat)]
  | .stm c p u w rn rlist =>
    wideCode 0x08000000 [(28, c.code), (24, p.toNat), (23, u.toNat), (21, w.toNat), (16, rn.toNat), (0, rlist.toNat)]
  | .ldm c p u w rn rlist =>
    wideCode 0x08100000 [(28, c.code), (24, p.toNat), (23, u.toNat), (21, w.toNat), (16, rn.toNat), (0, rlist.toNat)]
  | .stmUser c p u w rn rlist =>
    wideCode 0x08400000 [(28, c.code), (24, p.toNat), (23, u.toNat), (21, w.toNat), (16, rn.toNat), (0, rlist.toNat)]
  | .ldmUser c p u w rn rlist =>
    wideCode 0x08500000 [(28, c.code), (24, p.toNat), (23, u.toNat), (21, w.toNat), (16, rn.toNat), (0, rlist.toNat)]
  | .ldmCpsr c p u w rn rlist =>
    wideCode 0x08508000 [(28, c.code), (24, p.toNat), (23, u.toNat), (21, w.toNat), (16, rn.toNat), (0, rlist.toNat)]
  | .b c imm24 =>
    wideCode 0x0A000000 [(28, c.code), (0, imm24.toNat)]
  | .bl c imm24 =>
    wideCode 0x0B000000 [(28, c.code), (0, imm24.toNat)]
  | .stc c p u n w rn crd cp offset8 =>
    wideCode 0x0C000000 [(28, c.code), (24, p.toNat), (23, u.toNat), (22, n.toNat), (21, w.toNat), (16, rn.toNat), (12, crd.toNat), (8, cp.toNat), (0, offset8.toNat)]
  | .ldc c p u n w rn crd cp offset8 =>
    wideCode 0x0C100000 [(28, c.code), (24, p.toNat), (23, u.toNat), (22, n.toNat), (21, w.toNat), (16, rn.toNat), (12, crd.toNat), (8, cp.toNat), (0, offset8.toNat)]
  | .cdp c op1 crn crd cp op2 crm =>
    wideCode 0x0E000000 [(28, c.code), (20, op1.toNat), (16, crn.toNat), (12, crd.toNat), (8, cp.toNat), (5, op2.toNat), (0, crm.toNat)]
  | .mcr c op1 crn rd cp op2 crm =>
    wideCode 0x0E000010 [(28, c.code), (21, op1.toNat), (16, crn.toNat), (12, rd.toNat), (8, cp.toNat), (5, op2.toNat), (0, crm.toNat)]
  | .mrc c op1 crn rd cp op2 crm =>
    wideCode 0x0E100010 [(28, c.code), (21, op1.toNat), (16, crn.toNat), (12, rd.toNat), (8, cp.toNat), (5, op2.toNat), (0, crm.toNat)]
  | .swi c comment =>
    wideCode 0x0F000000 [(28, c.code), (0, comment.toNat)]
  | .tLslImm imm5 rs rd =>
    narrowCode 0x0000 [(6, imm5.toNat), (3, rs.toNat), (0, rd.toNat)]
  | .tLsrImm imm5 rs rd =>
    narrowCode 0x0800 [(6, imm5.toNat), (3, rs.toNat), (0, rd.toNat)]
  | .tAsrImm imm5 rs rd =>
    narrowCode 0x1000 [(6, imm5.toNat), (3, rs.toNat), (0, rd.toNat)]
  | .tAddReg rn rs rd =>
    narrowCode 0x1800 [(6, rn.toNat), (3, rs.toNat), (0, rd.toNat)]
  | .tSubReg rn rs rd =>
    narrowCode 0x1A00 [(6, rn.toNat), (3, rs.toNat), (0, rd.toNat)]
  | .tAddImm3 imm3 rs rd =>
    narrowCode 0x1C00 [(6, imm3.toNat), (3, rs.toNat), (0, rd.toNat)]
  | .tSubImm3 imm3 rs rd =>
    narrowCode 0x1E00 [(6, imm3.toNat), (3, rs.toNat), (0, rd.toNat)]
  | .tMovImm8 rd imm8 =>
    narrowCode 0x2000 [(8, rd.toNat), (0, imm8.toNat)]
  | .tCmpImm8 rd imm8 =>
    narrowCode 0x2800 [(8, rd.toNat), (0, imm8.toNat)]
  | .tAddImm8 rd imm8 =>
    narrowCode 0x3000 [(8, rd.toNat), (0, imm8.toNat)]
  | .tSubImm8 rd imm8 =>
    narrowCode 0x3800 [(8, rd.toNat), (0, imm8.toNat)]
  | .tAnd rs rd =>
    narrowCode 0x4000 [(3, rs.toNat), (0, rd.toNat)]
  | .tEor rs rd =>
    narrowCode 0x4040 [(3, rs.toNat), (0, rd.toNat)]
  | .tLslReg rs rd =>
    narrowCode 0x4080 [(3, rs.toNat), (0, rd.toNat)]
  | .tLsrReg rs rd =>
    narrowCode 0x40C0 [(3, rs.toNat), (0, rd.toNat)]
  | .tAsrReg rs rd =>
    narrowCode 0x4100 [(3, rs.toNat), (0, rd.toNat)]
  | .tAdc rs rd =>
    narrowCode 0x4140 [(3, rs.toNat), (0, rd.toNat)]
  | .tSbc rs rd =>
    narrowCode 0x4180 [(3, rs.toNat), (0, rd.toNat)]
  | .tRor rs rd =>
    narrowCode 0x41C0 [(3, rs.toNat), (0, rd.toNat)]
  | .tTst rs rd =>
    narrowCode 0x4200 [(3, rs.toNat), (0, rd.toNat)]
  | .tNeg rs rd =>
    narrowCode 0x4240 [(3, rs.toNat), (0, rd.toNat)]
  | .tCmpReg rs rd =>
    narrowCode 0x4280 [(3, rs.toNat), (0, rd.toNat)]
  | .tCmn rs rd =>
    narrowCode 0x42C0 [(3, rs.toNat), (0, rd.toNat)]
  | .tOrr rs rd =>
    narrowCode 0x4300 [(3, rs.toNat), (0, rd.toNat)]
  | .tMul rs rd =>
    narrowCode 0x4340 [(3, rs.toNat), (0, rd.toNat)]
  | .tBic rs rd =>
    narrowCode 0x4380 [(3, rs.toNat), (0, rd.toNat)]
  | .tMvn rs rd =>
    narrowCode 0x43C0 [(3, rs.toNat), (0, rd.toNat)]
  | .tAddHi h1 h2 rs rd =>
    narrowCode 0x4400 [(7, h1.toNat), (6, h2.toNat), (3, rs.toNat), (0, rd.toNat)]
  | .tCmpHi h1 h2 rs rd =>
    narrowCode 0x4500 [(7, h1.toNat), (6, h2.toNat), (3, rs.toNat), (0, rd.toNat)]
  | .tMovHi h1 h2 rs rd =>
    narrowCode 0x4600 [(7, h1.toNat), (6, h2.toNat), (3, rs.toNat), (0, rd.toNat)]
  | .tBx h2 rs sbz =>
    narrowCode 0x4700 [(6, h2.toNat), (3, rs.toNat), (0, sbz.toNat)]
  | .tLdrPc rd imm8 =>
    narrowCode 0x4800 [(8, rd.toNat), (0, imm8.toNat)]
  | .tStrReg ro rb rd =>
    narrowCode 0x5000 [(6, ro.toNat), (3, rb.toNat), (0, rd.toNat)]
  | .tStrbReg ro rb rd =>
    narrowCode 0x5400 [(6, ro.toNat), (3, rb.toNat), (0, rd.toNat)]
  | .tLdrReg ro rb rd =>
    narrowCode 0x5800 [(6, ro.toNat), (3, rb.toNat), (0, rd.toNat)]
  | .tLdrbReg ro rb rd =>
    narrowCode 0x5C00 [(6, ro.toNat), (3, rb.toNat), (0, rd.toNat)]
  | .tStrhReg ro rb rd =>
    narrowCode 0x5200 [(6, ro.toNat), (3, rb.toNat), (0, rd.toNat)]
  | .tLdsbReg ro rb rd =>
    narrowCode 0x5600 [(6, ro.toNat), (3, rb.toNat), (0, rd.toNat)]
  | .tLdrhReg ro rb rd =>
    narrowCode 0x5A00 [(6, ro.toNat), (3, rb.toNat), (0, rd.toNat)]
  | .tLdshReg ro rb rd =>
    narrowCode 0x5E00 [(6, ro.toNat), (3, rb.toNat), (0, rd.toNat)]
  | .tStrImm imm5 rb rd =>
    narrowCode 0x6000 [(6, imm5.toNat), (3, rb.toNat), (0, rd.toNat)]
  | .tLdrImm imm5 rb rd =>
    narrowCode 0x6800 [(6, imm5.toNat), (3, rb.toNat), (0, rd.toNat)]
  | .tStrbImm imm5 rb rd =>
    narrowCode 0x7000 [(6, imm5.toNat), (3, rb.toNat), (0, rd.toNat)]
  | .tLdrbImm imm5 rb rd =>
    narrowCode 0x7800 [(6, imm5.toNat), (3, rb.toNat), (0, rd.toNat)]
  | .tStrhImm imm5 rb rd =>
    narrowCode 0x8000 [(6, imm5.toNat), (3, rb.toNat), (0, rd.toNat)]
  | .tLdrhImm imm5 rb rd =>
    narrowCode 0x8800 [(6, imm5.toNat), (3, rb.toNat), (0, rd.toNat)]
  | .tStrSp rd imm8 =>
    narrowCode 0x9000 [(8, rd.toNat), (0, imm8.toNat)]
  | .tLdrSp rd imm8 =>
    narrowCode 0x9800 [(8, rd.toNat), (0, imm8.toNat)]
  | .tAddPc rd imm8 =>
    narrowCode 0xA000 [(8, rd.toNat), (0, imm8.toNat)]
  | .tAddSp rd imm8 =>
    narrowCode 0xA800 [(8, rd.toNat), (0, imm8.toNat)]
  | .tAddSpimm imm7 =>
    narrowCode 0xB000 [(0, imm7.toNat)]
  | .tSubSpimm imm7 =>
    narrowCode 0xB080 [(0, imm7.toNat)]
  | .tPush r rlist =>
    narrowCode 0xB400 [(8, r.toNat), (0, rlist.toNat)]
  | .tPop r rlist =>
    narrowCode 0xBC00 [(8, r.toNat), (0, rlist.toNat)]
  | .tStmia rb rlist =>
    narrowCode 0xC000 [(8, rb.toNat), (0, rlist.toNat)]
  | .tLdmia rb rlist =>
    narrowCode 0xC800 [(8, rb.toNat), (0, rlist.toNat)]
  | .tBeq imm8 =>
    narrowCode 0xD000 [(0, imm8.toNat)]
  | .tBne imm8 =>
    narrowCode 0xD100 [(0, imm8.toNat)]
  | .tBcs imm8 =>
    narrowCode 0xD200 [(0, imm8.toNat)]
  | .tBcc imm8 =>
    narrowCode 0xD300 [(0, imm8.toNat)]
  | .tBmi imm8 =>
    narrowCode 0xD400 [(0, imm8.toNat)]
  | .tBpl imm8 =>
    narrowCode 0xD500 [(0, imm8.toNat)]
  | .tBvs imm8 =>
    narrowCode 0xD600 [(0, imm8.toNat)]
  | .tBvc imm8 =>
    narrowCode 0xD700 [(0, imm8.toNat)]
  | .tBhi imm8 =>
    narrowCode 0xD800 [(0, imm8.toNat)]
  | .tBls imm8 =>
    narrowCode 0xD900 [(0, imm8.toNat)]
  | .tBge imm8 =>
    narrowCode 0xDA00 [(0, imm8.toNat)]
  | .tBlt imm8 =>
    narrowCode 0xDB00 [(0, imm8.toNat)]
  | .tBgt imm8 =>
    narrowCode 0xDC00 [(0, imm8.toNat)]
  | .tBle imm8 =>
    narrowCode 0xDD00 [(0, imm8.toNat)]
  | .tSwi comment =>
    narrowCode 0xDF00 [(0, comment.toNat)]
  | .tB imm11 =>
    narrowCode 0xE000 [(0, imm11.toNat)]
  | .tBlHi imm11 =>
    narrowCode 0xF000 [(0, imm11.toNat)]
  | .tBlLo imm11 =>
    narrowCode 0xF800 [(0, imm11.toNat)]

/-- The instruction of a code. -/
def decodeCode : Code → Option Instr
  | .wide w => decodeWide w
  | .narrow h => decodeNarrow h

/-- The bytes of a code, the least significant at the lowest address (R112). -/
def Code.bytes : Code → List Byte
  | .wide w => [byteOf w.toNat 0, byteOf w.toNat 1, byteOf w.toNat 2, byteOf w.toNat 3]
  | .narrow h => [byteOf h.toNat 0, byteOf h.toNat 1]

/-- The code is a narrow one. -/
def Code.isNarrow : Code → Bool
  | .wide _ => false
  | .narrow _ => true

end Sys2Proof
end

