-- ==== Sys2Proof/Machine/Checks.lean ====
section
/-! DEFINITION. The operand combinations that ARMv4T calls UNPREDICTABLE and that 93_implementation_defined treats by
`refuse`, as checks on an instruction's fields alone. Each meaning runs its check first; `Instr.wf` collects them. -/

namespace Sys2Proof

/-- The refused operand combinations, each with its entry of 93_implementation_defined. -/
inductive Unpredictable where
  /-- U5: a register-specified shift whose amount register is r15 (42 R195). -/
  | shiftAmountIsPc
  /-- U7: r15 as an operand or destination of a multiply (43 R230). -/
  | multiplyUsesPc
  /-- U7: a multiply whose destination is also Rm (43 R230). -/
  | multiplyRdIsRm
  /-- U7: a long multiply whose two destinations are one register (43 R230). -/
  | multiplyHiIsLo
  /-- U8: write-back with Rn = 15 (44 R241). -/
  | writebackToPc
  /-- U8: Rm = 15 as the offset of a single transfer (44 R241). -/
  | offsetIsPc
  /-- U8: Rm = Rn in a post-indexed transfer (44 R241). -/
  | offsetIsPostIndexedBase
  /-- U8: Rd = 15 in a byte or halfword transfer (44 R244, R245, R251 to R254). -/
  | narrowTransferOfPc
  /-- U8: a halfword post-indexed form with W = 1 (44 R250). -/
  | halfwordPostIndexedW
  /-- U11: LDM or STM with Rn = 15 (45 R273, R274). -/
  | blockBaseIsPc
  /-- U12: the user-bank form with W = 1 (45 R276). -/
  | userBankWriteback
  /-- U13: an empty register list (45 R278, 48 R390 to R394). -/
  | emptyList
  /-- U14: r15 as an operand of a swap (45 R284, R285). -/
  | swapUsesPc
  /-- U14: MRS with Rd = 15 (46 R290). -/
  | statusReadToPc
  /-- U14: MSR with Rm = 15 (46 R292). -/
  | statusWriteFromPc
  deriving DecidableEq, Repr

/-- The reason of the first condition that holds. -/
def firstOf : List (Bool × Unpredictable) → Option Unpredictable
  | [] => none
  | (holds, u) :: rest => if holds then some u else firstOf rest

/-- The check of a register-specified shift (U5). -/
def checkShiftReg (rs : Reg) : Option Unpredictable := firstOf [(rs == 15, .shiftAmountIsPc)]

/-- The check of MUL (U7); the field of Rn is ignored (R231). -/
def checkMul (rd rm rs : Reg) : Option Unpredictable :=
  firstOf [(rd == 15 || rm == 15 || rs == 15, .multiplyUsesPc), (rd == rm, .multiplyRdIsRm)]

/-- The check of MLA (U7). -/
def checkMla (rd rn rm rs : Reg) : Option Unpredictable :=
  firstOf [(rd == 15 || rn == 15 || rm == 15 || rs == 15, .multiplyUsesPc), (rd == rm, .multiplyRdIsRm)]

/-- The check of the long multiplies (U7). -/
def checkMull (rdHi rdLo rm rs : Reg) : Option Unpredictable :=
  firstOf [(rdHi == 15 || rdLo == 15 || rm == 15 || rs == 15, .multiplyUsesPc),
    (rdHi == rdLo, .multiplyHiIsLo), (rdHi == rm || rdLo == rm, .multiplyRdIsRm)]

/-- The checks of a word transfer (U8): write-back to r15. -/
def wordChecks (writeback : Bool) (rn : Reg) : List (Bool × Unpredictable) :=
  [(writeback && rn == 15, .writebackToPc)]

/-- The checks of a byte or halfword transfer (U8): also Rd = 15. -/
def narrowChecks (writeback : Bool) (rn rd : Reg) : List (Bool × Unpredictable) :=
  [(writeback && rn == 15, .writebackToPc), (rd == 15, .narrowTransferOfPc)]

/-- The checks of a register offset (U8): Rm = 15, and Rm = Rn in a post-indexed form. -/
def offsetChecks (post : Bool) (rn rm : Reg) : List (Bool × Unpredictable) :=
  [(rm == 15, .offsetIsPc), (post && rm == rn, .offsetIsPostIndexedBase)]

/-- LDR, STR and their T forms with an immediate offset. -/
def checkWordImm (writeback : Bool) (rn : Reg) : Option Unpredictable := firstOf (wordChecks writeback rn)

/-- LDR, STR and their T forms with a register offset. -/
def checkWordReg (writeback post : Bool) (rn rm : Reg) : Option Unpredictable :=
  firstOf (wordChecks writeback rn ++ offsetChecks post rn rm)

/-- LDRB, STRB and their T forms with an immediate offset. -/
def checkByteImm (writeback : Bool) (rn rd : Reg) : Option Unpredictable := firstOf (narrowChecks writeback rn rd)

/-- LDRB, STRB and their T forms with a register offset. -/
def checkByteReg (writeback post : Bool) (rn rd rm : Reg) : Option Unpredictable :=
  firstOf (narrowChecks writeback rn rd ++ offsetChecks post rn rm)

/-- The halfword and signed transfers with an immediate offset (R250): post-indexed forms write back and need W = 0. -/
def checkHalfImm (p w : Bool) (rn rd : Reg) : Option Unpredictable :=
  firstOf ((!p && w, .halfwordPostIndexedW) :: narrowChecks (!p || w) rn rd)

/-- The halfword and signed transfers with a register offset (R250). -/
def checkHalfReg (p w : Bool) (rn rd rm : Reg) : Option Unpredictable :=
  firstOf ((!p && w, .halfwordPostIndexedW) :: narrowChecks (!p || w) rn rd ++ offsetChecks (!p) rn rm)

/-- LDM, STM and the CPSR-restoring LDM (U11, U13). -/
def checkBlock (rn : Reg) (rlist : BitVec 16) : Option Unpredictable :=
  firstOf [(rn == 15, .blockBaseIsPc), (rlist == 0, .emptyList)]

/-- The user-bank forms (U11, U12, U13). -/
def checkUserBlock (w : Bool) (rn : Reg) (rlist : BitVec 16) : Option Unpredictable :=
  firstOf [(rn == 15, .blockBaseIsPc), (w, .userBankWriteback), (rlist == 0, .emptyList)]

/-- SWP and SWPB (U14). -/
def checkSwap (rn rd rm : Reg) : Option Unpredictable :=
  firstOf [(rn == 15 || rd == 15 || rm == 15, .swapUsesPc)]

/-- MRS (U14). -/
def checkMrs (rd : Reg) : Option Unpredictable := firstOf [(rd == 15, .statusReadToPc)]

/-- MSR from a register (U14). -/
def checkMsrReg (rm : Reg) : Option Unpredictable := firstOf [(rm == 15, .statusWriteFromPc)]

/-- PUSH and POP: the list with its extra register (U13). -/
def checkStack (r : Bool) (rlist : BitVec 8) : Option Unpredictable :=
  firstOf [(!r && rlist == 0, .emptyList)]

/-- STMIA and LDMIA (U13). -/
def checkNarrowBlock (rlist : BitVec 8) : Option Unpredictable := firstOf [(rlist == 0, .emptyList)]

end Sys2Proof
end

