-- ==== Sys2Proof/Config.lean ====
section
/-! DEFINITION. What the spec leaves to a parameter `P_*` (00_scope section 5), as plain data, and the free values:
opaque constants that nothing can evaluate, applied to the counter `draws` of State (log entries 4 and 6). -/

namespace Sys2Proof

/-- What a region of an external node answers to a load (20_memory R72, R84). -/
inductive LoadRule where
  /-- The bytes of its storage, little-endian (R88). -/
  | cells
  /-- 0, with `ok = true`. -/
  | zero
  /-- `ok = false`. -/
  | fails
  /-- What the block behind the region decides at each call: a free value, failure among its choices (log entry 16). -/
  | free
  deriving DecidableEq, Repr

/-- What a region of an external node does with a store (20_memory R72, R84). -/
inductive StoreRule where
  /-- Its storage takes the bytes, little-endian (R88). -/
  | cells
  /-- Accepted, with no effect. -/
  | ignored
  /-- `ok = false`. -/
  | fails
  /-- What the block behind the region decides at each call; an accepted store becomes part of the block's own state,
  on which all that it answers later may depend (log entry 16). -/
  | free
  deriving DecidableEq, Repr

/-- A run of local offsets of an external node that answers alike (20_memory R84, log entry 3). Offsets and storage are
counted in words of four bytes, so that the bytes of an aligned access lie in one region. -/
structure Region where
  /-- The first and the last word of the run: local offsets divided by 4. -/
  first : Nat
  last  : Nat
  /-- The first word of its storage. Regions with one base share their storage. -/
  base  : Nat
  /-- The storage is `2 ^ bits` words, mirrored over the whole run. -/
  bits  : Nat
  load  : LoadRule
  store : StoreRule
  deriving DecidableEq, Repr

/-- An external node (20_memory R70, R84). The first region that has the offset answers; an offset that no region has is
unmapped (R75, R86); a node without regions is no node. -/
abbrev Node := List Region

/-- A store that a free region has accepted: the bank (4 for `P_IO_EXTERNAL`), the local offset, the width in bytes and
the value (20_memory R72). -/
structure NodeStore where
  bank  : Nat
  off   : Nat
  bytes : Nat
  value : Word
  deriving DecidableEq, Repr

/-- What address bits 31:28 do in bank selection (20_memory R80, `P_UPPER_ADDR_POLICY`). -/
inductive UpperAddr where
  | unmapped
  | mirrored
  deriving DecidableEq, Repr

/-- What a halfword load at an odd address does (44 R256, `P_MISALIGNED_HALFWORD`). -/
inductive OddHalfword where
  | refuse
  | arm7tdmi
  deriving DecidableEq, Repr

/-- A link bias, which may depend on the width of the interrupted code (60 R434). -/
structure Bias where
  wide   : Word
  narrow : Word
  deriving DecidableEq, Repr

/-- `P_LR_BIAS`, one bias for each exception that has a link value (60 R422, R434). -/
structure LrBias where
  undefined     : Bias
  swi           : Bias
  prefetchAbort : Bias
  dataAbort     : Bias
  irq           : Bias
  fiq           : Bias
  deriving DecidableEq, Repr

/-- The open parameters of 00_scope section 5 that are no free value.
No step changes them; a statement about every state holds for every value of them. -/
structure Params where
  /-- `P_BANK_NODE[0..15]`; entry 4 is not looked at (bank 4 is the I/O sub-bus, 20_memory R85). -/
  banks            : Vector Node 16
  /-- `P_IO_EXTERNAL`, the node behind the offsets of bank 4 that no block of the core claims (20_memory R85, R86). -/
  ioExternal       : Node
  /-- `P_UPPER_ADDR_POLICY`. -/
  upperAddr        : UpperAddr
  /-- `P_MISALIGNED_HALFWORD`. -/
  oddHalfword      : OddHalfword
  /-- `P_STOP_WAKE_MASK`. -/
  stopWakeMask     : BitVec 14
  /-- `P_WAKE_REQUIRES_IME`. -/
  wakeRequiresIme  : Bool
  /-- `P_VISIBLE_SCANLINES`, the first and the last line of the range. -/
  firstVisibleLine : Nat
  lastVisibleLine  : Nat
  /-- `P_DMA_COUNT_MASK[0..3]`. -/
  dmaCountMask     : Vector Half 4
  /-- `P_DMA_COUNT_ZERO[0..3]`. -/
  dmaCountZero     : Vector Nat 4
  /-- `P_PRESCALER[0..3]`, cycles per tick of a timer, each at least 1. -/
  prescaler        : Vector Nat 4
  /-- `P_LR_BIAS`. -/
  lrBias           : LrBias
  deriving DecidableEq, Repr

/-- `P_CYCLES` of a tick is this value plus 1 (60 R504: a draw of at least 1). Free value. -/
opaque Config.cycles : Nat → Nat

/-- C after a multiply with S = 1 and after the narrow MUL (93 U6). Free value. -/
opaque Config.mulCarry : Nat → Bool

/-- V after a long multiply with S = 1 (93 U6). Free value. -/
opaque Config.mulOverflow : Nat → Bool

/-- r14_svc after Reset entry (93 U17). Free value. -/
opaque Config.resetLink : Nat → Word

/-- SPSR_svc after Reset entry, as a word of which only the state bits count (93 U17). Free value. -/
opaque Config.resetStatus : Nat → Word

/-- The halfword that a load from SAD, DAD or CNT gives, by draw and offset (93 U18). Free value. -/
opaque Config.dmaReadback : Nat → Nat → Half

/-- `P_OPEN_BUS(addr, width)`, by draw, address and width in bytes (93 U19). Free value. -/
opaque Config.openBus : Nat → Word → Nat → Word

/-- What a free region answers to a load, by the stores that free regions have accepted (the latest first), draw, bank,
local offset and width in bytes; none for `ok = false` (20_memory R84, log entry 16). Free value. -/
opaque Config.nodeLoad : List NodeStore → Nat → Nat → Nat → Nat → Option Word

/-- Whether a free region accepts a store, by the stores that free regions have accepted and draw (20_memory R84, log
entry 16). Free value. -/
opaque Config.nodeAccepts : List NodeStore → Nat → NodeStore → Bool

end Sys2Proof
end

