-- ==== Sys2Proof/Machine/Defaults.lean ====
section
/-! DEFINITION. The default values of the spec's open parameters (00_scope section 5), which State.reset takes. -/

namespace Sys2Proof.Machine

/-- No link bias: the document's link values taken literally (60 R422, 92 D9). -/
def noBias : Bias := { wide := 0, narrow := 0 }

/-- A node that fills its bank: its storage begins at word `base`, has `2 ^ bits` words and is mirrored over the bank. -/
def wholeBank (base bits : Nat) (store : StoreRule) : Node :=
  [{ first := 0, last := 0x3FFFFF, base := base, bits := bits, load := .cells, store := store }]

/-- The nodes of the console's map (20_memory R81): boot ROM of 16 KiB, work RAM of 256 KiB and of 32 KiB mirrored over
their banks, cartridge ROM in three mirrors, and plain RAM in the banks of which the map gives no size (log entry 3). -/
def consoleBanks : Vector Node 16 :=
  #v[[{ first := 0, last := 0xFFF, base := 0, bits := 12, load := .cells, store := .ignored }],
     [],
     wholeBank 0x0800000 16 .cells,
     wholeBank 0x0C00000 13 .cells,
     [],
     wholeBank 0x1400000 22 .cells,
     wholeBank 0x1800000 22 .cells,
     wholeBank 0x1C00000 22 .cells,
     wholeBank 0x2000000 22 .ignored,
     wholeBank 0x2400000 22 .ignored,
     wholeBank 0x2000000 22 .ignored,
     wholeBank 0x2400000 22 .ignored,
     wholeBank 0x2000000 22 .ignored,
     wholeBank 0x2400000 22 .ignored,
     wholeBank 0x3800000 22 .cells,
     wholeBank 0x3C00000 22 .cells]

/-- The defaults of 00_scope section 5. DESIGN CHOICE where the spec leaves it to the model: what the nodes of the banks
do with an access (log entry 3) and `oddHalfword`, for which the spec's default is `refuse` (log entry 5). -/
def defaultParams : Params :=
  { banks := consoleBanks
    ioExternal := []
    upperAddr := .unmapped
    oddHalfword := .arm7tdmi
    stopWakeMask := 0x3080
    wakeRequiresIme := true
    firstVisibleLine := 0
    lastVisibleLine := 159
    dmaCountMask := #v[0x3FFF, 0x3FFF, 0x3FFF, 0xFFFF]
    dmaCountZero := #v[0x4000, 0x4000, 0x4000, 0x10000]
    prescaler := #v[1, 64, 256, 1024]
    lrBias := { undefined := noBias, swi := noBias, prefetchAbort := noBias, dataAbort := noBias,
                irq := noBias, fiq := noBias } }

end Sys2Proof.Machine
end

