-- ==== Sys2Proof/Machine/State.lean ====
section
/-! DEFINITION. The state of the core as plain data (10_state), the reasons a step can stop, and the state after reset. -/

namespace Sys2Proof.Machine

/-! ## Processor status (10_state R35 to R39) -/

/-- The seven processor modes (R21, R37). -/
inductive Mode where
  | user | fiq | irq | supervisor | abort | undefined | system
  deriving DecidableEq, Repr

/-- The six private banks (R21, R22). -/
inductive Bank where
  | usr | fiq | irq | svc | abt | und
  deriving DecidableEq, Repr

/-- The live status word CPSR (R35, R36): flags, masks (true for masked), the width flag (true for narrow) and the mode,
always one of the seven (R42). Bits 27:8 are not state (R38). -/
structure Status where
  n    : Bool
  z    : Bool
  c    : Bool
  v    : Bool
  i    : Bool
  f    : Bool
  t    : Bool
  mode : Mode
  deriving DecidableEq, Repr

/-- A saved status word SPSR (R36, R39). Its mode field may hold any 5 bits: a write to it is not checked (46 R292). -/
structure Saved where
  n : Bool
  z : Bool
  c : Bool
  v : Bool
  i : Bool
  f : Bool
  t : Bool
  m : BitVec 5
  deriving DecidableEq, Repr

/-- A bank's r13 and r14 (R22). -/
structure SpLr where
  r13 : Word
  r14 : Word
  deriving DecidableEq, Repr

/-- Bank storage (R22). A cell is stale while its mode is current. `usrHi` and `fiqHi` hold r8 to r12. -/
structure Banks where
  usrHi   : Vector Word 5
  fiqHi   : Vector Word 5
  usr     : SpLr
  fiq     : SpLr
  irq     : SpLr
  svc     : SpLr
  abt     : SpLr
  und     : SpLr
  spsrFiq : Saved
  spsrIrq : Saved
  spsrSvc : Saved
  spsrAbt : Saved
  spsrUnd : Saved
  deriving DecidableEq, Repr

/-! ## Devices (10_state R45 to R58) -/

/-- The power state (R45). -/
inductive Power where
  | run | halt | stop
  deriving DecidableEq, Repr

/-- An address-increment mode of a DMA channel, in the order of its codes (R51). -/
inductive AddrMode where
  | increment | decrement | fixed | reload
  deriving DecidableEq, Repr

/-- A DMA trigger, in the order of its codes (R51). -/
inductive Trigger where
  | immediate | vblank | hblank | special
  deriving DecidableEq, Repr

/-- The control word of a DMA channel (R51); bits 4:0 are not state. -/
structure DmaControl where
  /-- Bits 6:5. -/
  dstMode : AddrMode
  /-- Bits 8:7. -/
  srcMode : AddrMode
  /-- Bit 9. -/
  repeats : Bool
  /-- Bit 10: true for words, false for halfwords. -/
  isWord  : Bool
  /-- Bit 11, plain storage. -/
  bit11   : Bool
  /-- Bits 13:12. -/
  trigger : Trigger
  /-- Bit 14. -/
  irq     : Bool
  /-- Bit 15. -/
  enable  : Bool
  deriving DecidableEq, Repr

/-- A DMA channel: the configured registers (R50) and the working state (R52). -/
structure DmaChannel where
  sad       : Word
  dad       : Word
  cnt       : Half
  ctrl      : DmaControl
  src       : Word
  dst       : Word
  remaining : Nat
  active    : Bool
  deriving DecidableEq, Repr

/-- The control word of a timer channel (R55, R58); its other bits are not state. -/
structure TimerControl where
  /-- Bits 1:0. -/
  prescaler : BitVec 2
  /-- Bit 2. -/
  cascade   : Bool
  /-- Bit 6. -/
  irq       : Bool
  /-- Bit 7. -/
  start     : Bool
  deriving DecidableEq, Repr

/-- A timer channel (R55). `overflowAt` is none where it is invalid (R56). -/
structure TimerChannel where
  counter    : Half
  reload     : Half
  control    : TimerControl
  overflowAt : Option Nat
  deriving DecidableEq, Repr

/-- The interrupt/power controller (R45 to R47), the DMA channels (R50 to R52), the timers (R55 to R57), and the
notices sent to the audio mixer in the last tick (60 R470, R492). -/
structure Devices where
  /-- IE (R47). -/
  enabled    : BitVec 14
  /-- IF (R47). -/
  pending    : BitVec 14
  /-- IME (R47). -/
  master     : Bool
  power      : Power
  waitcnt    : Half
  postflg    : Byte
  rstPending : Bool
  fiqPending : Bool
  dma        : Vector DmaChannel 4
  timers     : Vector TimerChannel 4
  /-- The global cycle counter (R57). -/
  now        : Nat
  /-- The channels t of the calls timer_overflow(t) of the last tick, in order (log entry 14). -/
  notices    : List Nat
  deriving DecidableEq, Repr

/-! ## The outside -/

/-- A call that an external block or the host makes in the peripheral phase of a tick (60 R470, R503).
A bus load by an external caller changes nothing in the core and is left out (log entry 12). -/
inductive HostCall where
  /-- `raise(s)`, `s` a bit number of 10_state R48. -/
  | raise (source : Fin 14)
  /-- `signal_vblank()`. -/
  | vblank
  /-- `signal_hblank(scanline)`. -/
  | hblank (line : Nat)
  /-- `fifo_refresh(ch)`. -/
  | fifoRefresh (ch : Fin 4)
  /-- The host sets or clears the FIQ level (60 R441). -/
  | setFiq (level : Bool)
  /-- The host sets the Reset event (60 R441). -/
  | setReset
  /-- A bus store by an external caller (60 R503). -/
  | store8 (addr : Word) (v : Byte)
  | store16 (addr : Word) (v : Half)
  | store32 (addr : Word) (v : Word)
  /-- An external block changes a byte of its own storage (20_memory R84; a keypad or scan-line register). -/
  | nodeByte (cell : Nat) (v : Byte)
  deriving DecidableEq, Repr

/-! ## The machine -/

/-- The state of the core. -/
structure State where
  /-- The live register file r0 to r15 (10_state R20); r15 holds A + 8 or A + 4 (R30). -/
  regs       : Vector Word 16
  /-- The live status word (R35). -/
  cpsr       : Status
  /-- The saved status word of the current mode (R39); it has no meaning in User and System mode. -/
  spsr       : Saved
  /-- Bank storage (R22). -/
  banks      : Banks
  /-- The step-local flag of 40 R158: the instruction or exception wrote the PC. -/
  redirected : Bool
  dev        : Devices
  /-- The storage of the external nodes, by cell number (20_memory R84, `cellIn`), in canonical form (log entry 2).
  A node that fills its bank has its cells at address bits 27:0. -/
  mem        : List Host.Cell
  /-- The stores that free regions have accepted, the latest first: the own state of the blocks behind them
  (20_memory R70, R84, log entry 16). -/
  nodeStores : List NodeStore
  /-- The calls of the outside, one batch a tick, the next tick's first (log entry 12). The model's own field. -/
  hostCalls  : List (List HostCall)
  /-- The index of the next free values (log entry 6). The model's own field. -/
  draws      : Nat
  /-- The open parameters (00_scope section 5, log entry 4). The model's own field; no step changes it. -/
  params     : Params
  deriving DecidableEq, Repr

/-- Why the machine stops with a fault. The core itself never does (00_scope R12). -/
inductive Fault where
  /-- An external caller made a misaligned 16- or 32-bit bus call: "bus nodes may assert alignment" (20_memory R90,
  93 U16). Raised by the external phase of a tick alone. Safe. -/
  | busAssert
  deriving DecidableEq, Repr

/-- Why an instruction has no meaning on some operands or in some mode: UNPREDICTABLE cases that the spec's treatment
list refuses (93_implementation_defined). All are safe: the model stops where the hardware goes on. -/
inductive Refusal where
  /-- An instruction without a meaning, refused in its arm of `exec`. Safe. -/
  | notModelled (mnemonic : String)
  /-- A refused operand combination (U5, U7, U8, U11 to U14), raised by the check of each meaning. Safe. -/
  | unpredictable (u : Unpredictable)
  /-- U1: SPSR read, written or restored in User or System mode, raised by MRS, MSR, the S = 1 forms that write r15
  and LDM with the CPSR restored. Safe. -/
  | noSpsr
  /-- U2: a status word whose mode field is illegal would be installed, raised by MSR to CPSR and by every
  SPSR-to-CPSR copy (10_state R42). Safe. -/
  | illegalMode
  /-- U2: MSR to CPSR would change the width flag (46 R293). Safe. -/
  | msrChangesWidth
  /-- U10: a halfword load at an odd address where `P_MISALIGNED_HALFWORD` is `refuse` (44 R256). Safe. -/
  | oddHalfwordLoad
  deriving DecidableEq, Repr

/-- What an instruction or a step answers. -/
abbrev Outcome := Host.Outcome State Fault Refusal

/-! ## Reset (10_state R62 to R64, 70 R520) -/

/-- A saved status word of zeros: the model's reset value for every SPSR (log entry 1). DESIGN CHOICE. -/
def Saved.zero : Saved := { n := false, z := false, c := false, v := false, i := false, f := false, t := false, m := 0 }

/-- A bank pair of zeros (log entry 1). DESIGN CHOICE. -/
def SpLr.zero : SpLr := { r13 := 0, r14 := 0 }

/-- A disabled DMA channel (R64); the working registers are log entry 15. -/
def DmaChannel.reset : DmaChannel :=
  { sad := 0, dad := 0, cnt := 0
    ctrl := { dstMode := .increment, srcMode := .increment, repeats := false, isWord := false, bit11 := false,
              trigger := .immediate, irq := false, enable := false }
    src := 0, dst := 0, remaining := 0, active := false }

/-- A stopped timer channel (R64). -/
def TimerChannel.reset : TimerChannel :=
  { counter := 0, reload := 0, control := { prescaler := 0, cascade := false, irq := false, start := false }
    overflowAt := none }

/-- The machine right after power-on reset (70 R520). Values the spec leaves to a draw are 0 (log entries 1, 15). -/
def State.reset : State :=
  { regs := #v[0, 0, 0, 0, 0, 0, 0, 0, 0, 0, 0, 0, 0, 0, 0, 8]
    cpsr := { n := false, z := false, c := false, v := false, i := true, f := true, t := false, mode := .supervisor }
    spsr := Saved.zero
    banks := { usrHi := #v[0, 0, 0, 0, 0], fiqHi := #v[0, 0, 0, 0, 0], usr := SpLr.zero, fiq := SpLr.zero
               irq := SpLr.zero, svc := SpLr.zero, abt := SpLr.zero, und := SpLr.zero
               spsrFiq := Saved.zero, spsrIrq := Saved.zero, spsrSvc := Saved.zero, spsrAbt := Saved.zero
               spsrUnd := Saved.zero }
    redirected := false
    dev := { enabled := 0, pending := 0, master := false, power := .run, waitcnt := 0, postflg := 0
             rstPending := false, fiqPending := false
             dma := #v[DmaChannel.reset, DmaChannel.reset, DmaChannel.reset, DmaChannel.reset]
             timers := #v[TimerChannel.reset, TimerChannel.reset, TimerChannel.reset, TimerChannel.reset]
             now := 0, notices := [] }
    mem := []
    nodeStores := []
    hostCalls := []
    draws := 0
    params := defaultParams }

end Sys2Proof.Machine
end

