-- ==== Sys2Proof/Machine/Psr.lean ====
section
/-! DEFINITION. Modes, banks and the word layout of the status words (10_state R36 to R39). -/

namespace Sys2Proof.Machine

/-- `bank_of(mode)` (R21, R37). -/
def Mode.bank : Mode → Bank
  | .user => .usr
  | .system => .usr
  | .fiq => .fiq
  | .irq => .irq
  | .supervisor => .svc
  | .abort => .abt
  | .undefined => .und

/-- The mode number (R37). -/
def Mode.bits : Mode → BitVec 5
  | .user => 0x10
  | .fiq => 0x11
  | .irq => 0x12
  | .supervisor => 0x13
  | .abort => 0x17
  | .undefined => 0x1B
  | .system => 0x1F

/-- The mode of a mode number, none where it is illegal (R37, R42). -/
def Mode.ofBits (m : BitVec 5) : Option Mode :=
  if m = 0x10 then some .user
  else if m = 0x11 then some .fiq
  else if m = 0x12 then some .irq
  else if m = 0x13 then some .supervisor
  else if m = 0x17 then some .abort
  else if m = 0x1B then some .undefined
  else if m = 0x1F then some .system
  else none

/-- The mode has an SPSR (R37, R39). -/
def Mode.hasSpsr : Mode → Bool
  | .user => false
  | .system => false
  | _ => true

/-- The saved form of a live status word (R39, 60 R425). -/
def Status.toSaved (p : Status) : Saved :=
  { n := p.n, z := p.z, c := p.c, v := p.v, i := p.i, f := p.f, t := p.t, m := p.mode.bits }

/-- The live form of a saved status word, none where its mode is illegal (R42). -/
def Saved.toStatus (q : Saved) : Option Status :=
  (Mode.ofBits q.m).map fun mode => { n := q.n, z := q.z, c := q.c, v := q.v, i := q.i, f := q.f, t := q.t, mode := mode }

/-- A status word as 32 bits (R36); bits 27:8 read as 0 (R38). -/
def Saved.toWord (q : Saved) : Word :=
  (BitVec.ofBool q.n ++ BitVec.ofBool q.z ++ BitVec.ofBool q.c ++ BitVec.ofBool q.v ++ 0#20 ++
    BitVec.ofBool q.i ++ BitVec.ofBool q.f ++ BitVec.ofBool q.t ++ q.m : BitVec 32)

/-- The state bits of a 32-bit status word (R36, R38). -/
def Saved.ofWord (w : Word) : Saved :=
  { n := w.getLsbD 31, z := w.getLsbD 30, c := w.getLsbD 29, v := w.getLsbD 28
    i := w.getLsbD 7, f := w.getLsbD 6, t := w.getLsbD 5, m := w.extractLsb' 0 5 }

/-- The live status word as 32 bits (R36). -/
def Status.toWord (p : Status) : Word := p.toSaved.toWord

/-- `should_execute(cond, CPSR)` (40 R160). -/
def Cond.holds (c : Cond) (p : Status) : Bool :=
  match c with
  | .eq => p.z
  | .ne => !p.z
  | .cs => p.c
  | .cc => !p.c
  | .mi => p.n
  | .pl => !p.n
  | .vs => p.v
  | .vc => !p.v
  | .hi => p.c && !p.z
  | .ls => !p.c || p.z
  | .ge => p.n == p.v
  | .lt => p.n != p.v
  | .gt => !p.z && p.n == p.v
  | .le => p.z || p.n != p.v
  | .al => true
  | .nv => false

/-! ## Banks (R22) -/

/-- The r13 and r14 cells of a bank. -/
def Banks.spLr (b : Banks) : Bank → SpLr
  | .usr => b.usr
  | .fiq => b.fiq
  | .irq => b.irq
  | .svc => b.svc
  | .abt => b.abt
  | .und => b.und

/-- Write the r13 and r14 cells of a bank. -/
def Banks.setSpLr (b : Banks) (k : Bank) (r : SpLr) : Banks :=
  match k with
  | .usr => { b with usr := r }
  | .fiq => { b with fiq := r }
  | .irq => { b with irq := r }
  | .svc => { b with svc := r }
  | .abt => { b with abt := r }
  | .und => { b with und := r }

/-- The spsr cell of a bank; the usr bank has none. -/
def Banks.spsr (b : Banks) : Bank → Option Saved
  | .usr => none
  | .fiq => some b.spsrFiq
  | .irq => some b.spsrIrq
  | .svc => some b.spsrSvc
  | .abt => some b.spsrAbt
  | .und => some b.spsrUnd

/-- Write the spsr cell of a bank; the usr bank has none. -/
def Banks.setSpsr (b : Banks) (k : Bank) (q : Saved) : Banks :=
  match k with
  | .usr => b
  | .fiq => { b with spsrFiq := q }
  | .irq => { b with spsrIrq := q }
  | .svc => { b with spsrSvc := q }
  | .abt => { b with spsrAbt := q }
  | .und => { b with spsrUnd := q }

end Sys2Proof.Machine
end

