-- ==== Sys2Proof/Machine/Ops.lean ====
section
/-! DEFINITION. The named operations on registers, status, banks and memory cells, taking an exception and returning
from one. -/

namespace Sys2Proof.Machine

/-! ## Registers (10_state R20, R30, R34) -/

/-- `x[r]` (00_scope R8): the live register; `x[15]` is A + 8 or A + 4 (10_state R30). -/
def State.reg (s : State) (r : Reg) : Word := s.regs[r.toNat]'r.isLt

/-- Write the cell of register `r`. -/
def State.setReg (s : State) (r : Reg) (v : Word) : State := { s with regs := s.regs.set r.toNat v r.isLt }

/-- `pc <- T` (40 R158): the target goes into `x[15]` and the step is marked as redirected; the refill is the step's. -/
def State.branchTo (s : State) (target : Word) : State := { s.setReg 15 target with redirected := true }

/-- Write a destination register, where r15 is a branch (42 R192, 44 R242). -/
def State.writeReg (s : State) (r : Reg) (v : Word) : State :=
  if r = 15 then s.branchTo v else s.setReg r v

/-- A low register field as a register number (30_encoding R125). -/
def low (r : LoReg) : Reg := r.setWidth 4

/-- The instruction width w in bytes under a width flag (00_scope glossary). -/
def widthOf (narrow : Bool) : Word := if narrow then 2 else 4

/-- The pipeline offset Δ under a width flag (10_state R30). -/
def offsetOf (narrow : Bool) : Word := if narrow then 4 else 8

/-- `current_instruction()` (10_state R34). -/
def State.currentInstruction (s : State) : Word := s.reg 15 - offsetOf s.cpsr.t

/-- `next_instruction()` (10_state R34). -/
def State.nextInstruction (s : State) : Word := s.reg 15 - widthOf s.cpsr.t

/-- Drop the low bits of an address that is not a multiple of 4. -/
def align4 (a : Word) : Word := a &&& 0xFFFFFFFC

/-- Drop the low bit of an address. -/
def align2 (a : Word) : Word := a &&& 0xFFFFFFFE

/-! ## Banking (10_state R40) -/

/-- r8 to r12 of the live register file. -/
def State.liveHi (s : State) : Vector Word 5 := #v[s.reg 8, s.reg 9, s.reg 10, s.reg 11, s.reg 12]

/-- Write r8 to r12 of the live register file. -/
def State.setHi (s : State) (h : Vector Word 5) : State :=
  ((((s.setReg 8 h[0]).setReg 9 h[1]).setReg 10 h[2]).setReg 11 h[3]).setReg 12 h[4]

/-- Step 1 of `load_status`: save the outgoing bank `ob` on the way to bank `nb` (R40). -/
def State.saveBank (s : State) (ob nb : Bank) : State :=
  let b := (s.banks.setSpLr ob { r13 := s.reg 13, r14 := s.reg 14 }).setSpsr ob s.spsr
  let b := if ob = .fiq then { b with fiqHi := s.liveHi } else b
  let b := if nb = .fiq then { b with usrHi := s.liveHi } else b
  { s with banks := b }

/-- Step 2 of `load_status`: load the incoming bank `nb` on the way from bank `ob` (R40). -/
def State.loadBank (s : State) (ob nb : Bank) : State :=
  let s := if ob = .fiq then s.setHi s.banks.usrHi else s
  let s := if nb = .fiq then s.setHi s.banks.fiqHi else s
  let s := (s.setReg 13 (s.banks.spLr nb).r13).setReg 14 (s.banks.spLr nb).r14
  { s with spsr := (s.banks.spsr nb).getD s.spsr }

/-- `load_status(new)`: the banked status write (R40). -/
def State.loadStatus (s : State) (new : Status) : State :=
  let ob := s.cpsr.mode.bank
  let nb := new.mode.bank
  let s := if ob = nb then s else (s.saveBank ob nb).loadBank ob nb
  { s with cpsr := new }

/-- The User-mode register `i` of the user-bank transfers, whatever the mode (45 R276). -/
def State.usrReg (s : State) (i : Reg) : Word :=
  if 8 ≤ i ∧ i ≤ 12 ∧ s.cpsr.mode.bank = .fiq then s.banks.usrHi.toList.getD (i.toNat - 8) 0
  else if i = 13 ∧ s.cpsr.mode.bank ≠ .usr then s.banks.usr.r13
  else if i = 14 ∧ s.cpsr.mode.bank ≠ .usr then s.banks.usr.r14
  else s.reg i

/-- Write the User-mode register `i` (45 R276). -/
def State.setUsrReg (s : State) (i : Reg) (v : Word) : State :=
  if 8 ≤ i ∧ i ≤ 12 ∧ s.cpsr.mode.bank = .fiq then
    { s with banks := { s.banks with usrHi := s.banks.usrHi.setIfInBounds (i.toNat - 8) v } }
  else if i = 13 ∧ s.cpsr.mode.bank ≠ .usr then
    { s with banks := { s.banks with usr := { s.banks.usr with r13 := v } } }
  else if i = 14 ∧ s.cpsr.mode.bank ≠ .usr then
    { s with banks := { s.banks with usr := { s.banks.usr with r14 := v } } }
  else s.setReg i v

/-! ## Taking an exception (60 R420 to R433) -/

/-- The seven exception kinds (60 R420). -/
inductive Exc where
  | reset | undefined | swi | prefetchAbort | dataAbort | irq | fiq
  deriving DecidableEq, Repr

/-- The target mode (60 R420). -/
def Exc.mode : Exc → Mode
  | .reset => .supervisor
  | .undefined => .undefined
  | .swi => .supervisor
  | .prefetchAbort => .abort
  | .dataAbort => .abort
  | .irq => .irq
  | .fiq => .fiq

/-- The vector (60 R423). -/
def Exc.vector : Exc → Word
  | .reset => 0x00
  | .undefined => 0x04
  | .swi => 0x08
  | .prefetchAbort => 0x0C
  | .dataAbort => 0x10
  | .irq => 0x18
  | .fiq => 0x1C

/-- Entry also sets F (60 R421). -/
def Exc.masksFiq : Exc → Bool
  | .reset => true
  | .fiq => true
  | _ => false

/-- `P_LR_BIAS[e]` for the width of the interrupted code (60 R434). -/
def Bias.at (b : Bias) (narrow : Bool) : Word := if narrow then b.narrow else b.wide

/-- The link value (60 R422), from `x[15]` and the width flag before anything changes. For Reset a free value (R426). -/
def State.linkValue (s : State) (e : Exc) : Word :=
  match e with
  | .dataAbort => s.currentInstruction + Bias.at s.params.lrBias.dataAbort s.cpsr.t
  | .prefetchAbort => s.currentInstruction + widthOf s.cpsr.t + Bias.at s.params.lrBias.prefetchAbort s.cpsr.t
  | .swi => s.nextInstruction + Bias.at s.params.lrBias.swi s.cpsr.t
  | .undefined => s.nextInstruction + Bias.at s.params.lrBias.undefined s.cpsr.t
  | .irq => s.nextInstruction + Bias.at s.params.lrBias.irq s.cpsr.t
  | .fiq => s.nextInstruction + Bias.at s.params.lrBias.fiq s.cpsr.t
  | .reset => Config.resetLink s.draws

/-- What the SPSR of the new mode receives (60 R425): the old CPSR; for Reset a free value (R426). -/
def State.savedOnEntry (s : State) (e : Exc) : Saved :=
  match e with
  | .reset => Saved.ofWord (Config.resetStatus s.draws)
  | _ => s.cpsr.toSaved

/-- The CPSR in the handler (60 R421). -/
def State.handlerStatus (s : State) (e : Exc) : Status :=
  { s.cpsr with mode := e.mode, t := false, i := true, f := s.cpsr.f || e.masksFiq }

/-- `enter(e)`: take exception `e` (60 R421). -/
def State.enter (s : State) (e : Exc) : State :=
  let s1 := s.loadStatus (s.handlerStatus e)
  let s2 := { s1 with spsr := s.savedOnEntry e }
  (s2.setReg 14 (s.linkValue e)).branchTo e.vector

/-- Reset entry also clears `rst_pending` (60 R426). -/
def State.enterReset (s : State) : State :=
  let s1 := s.enter .reset
  { s1 with dev := { s1.dev with rstPending := false } }

/-! ## Returning from an exception (60 R436) -/

/-- `load_status(SPSR)` (42 R198, 45 R277): refused where the mode has no SPSR (U1) or the word is illegal (U2). -/
def State.restoreStatus (s : State) (k : State → Outcome) : Outcome :=
  if s.cpsr.mode.hasSpsr then
    match s.spsr.toStatus with
    | some new => k (s.loadStatus new)
    | none => .refused .illegalMode
  else .refused .noSpsr

/-! ## Memory cells (20_memory R88, log entry 2) -/

/-- What an unlisted byte reads as (log entry 2). DESIGN CHOICE. -/
def unlisted : Byte := 0

/-- The byte at an address. -/
def Memory.read : List Host.Cell → Nat → Byte
  | [], _ => unlisted
  | (b, v) :: m, a => if a = b then v else Memory.read m a

/-- Put a byte at the head of a memory whose addresses are all higher; the unlisted value is not listed. -/
def Memory.cons (a : Nat) (v : Byte) (m : List Host.Cell) : List Host.Cell :=
  if v = unlisted then m else (a, v) :: m

/-- Write the byte at an address, keeping the addresses rising and the unlisted value unlisted. -/
def Memory.write : List Host.Cell → Nat → Byte → List Host.Cell
  | [], a, v => Memory.cons a v []
  | (b, w) :: m, a, v =>
    if a < b then Memory.cons a v ((b, w) :: m)
    else if a = b then Memory.cons a v m
    else (b, w) :: Memory.write m a v

/-- Every listed address is above `lo` and rising, and no listed byte is the unlisted value. -/
def Memory.wfAbove : Option Nat → List Host.Cell → Bool
  | _, [] => true
  | lo, (a, v) :: m => (lo.all (· < a)) && v != unlisted && Memory.wfAbove (some a) m

/-- The memory is in canonical form. -/
def Memory.wf (m : List Host.Cell) : Bool := Memory.wfAbove none m

/-- A halfword of two bytes, the less significant at the lower address (20_memory R88). -/
def Memory.read16 (m : List Host.Cell) (a : Nat) : Half := Memory.read m (a + 1) ++ Memory.read m a

/-- A word of four bytes, the least significant at the lowest address (20_memory R88). -/
def Memory.read32 (m : List Host.Cell) (a : Nat) : Word :=
  (Memory.read m (a + 3) ++ Memory.read m (a + 2) ++ Memory.read m (a + 1) ++ Memory.read m a : BitVec 32)

/-- Store a halfword as two bytes (20_memory R88). -/
def Memory.write16 (m : List Host.Cell) (a : Nat) (v : Half) : List Host.Cell :=
  Memory.write (Memory.write m a (v.extractLsb' 0 8)) (a + 1) (v.extractLsb' 8 8)

/-- Store a word as four bytes (20_memory R88). -/
def Memory.write32 (m : List Host.Cell) (a : Nat) (v : Word) : List Host.Cell :=
  Memory.write
    (Memory.write (Memory.write (Memory.write m a (v.extractLsb' 0 8)) (a + 1) (v.extractLsb' 8 8))
      (a + 2) (v.extractLsb' 16 8))
    (a + 3) (v.extractLsb' 24 8)

end Sys2Proof.Machine
end

