-- ==== Sys2Proof/Machine/Interrupt.lean ====
section
/-! DEFINITION. The Interrupt/Power Controller: the request line, raising a source, waking, Halt and Stop
(10_state R45 to R48, 60 R445 to R455). -/

namespace Sys2Proof.Machine

/-- `(IE AND IF) != 0`. -/
def Devices.anyPending (d : Devices) : Bool := d.enabled &&& d.pending != 0

/-- `irq_line` (60 R449). -/
def Devices.irqLine (d : Devices) : Bool := d.anyPending && d.master

/-- `wake_check()` (60 R451). -/
def Devices.wakeCheck (p : Params) (d : Devices) : Devices :=
  let line := !p.wakeRequiresIme || d.master
  match d.power with
  | .run => d
  | .halt => if line && d.anyPending then { d with power := .run } else d
  | .stop => if line && d.enabled &&& d.pending &&& p.stopWakeMask != 0 then { d with power := .run } else d

/-- `raise(s)` (60 R445). -/
def Devices.raise (p : Params) (source : Nat) (d : Devices) : Devices :=
  Devices.wakeCheck p { d with pending := d.pending ||| BitVec.twoPow 14 source }

/-- The HALTCNT write (60 R450): bit 7 selects Stop; nothing happens where an enabled source is pending. -/
def Devices.haltControl (v : Byte) (d : Devices) : Devices :=
  if d.anyPending then d else { d with power := if v.getLsbD 7 then .stop else .halt }

/-- `IE` after a store of the masked bits (60 R447). -/
def Devices.storeEnable (p : Params) (mask v : Half) (d : Devices) : Devices :=
  Devices.wakeCheck p
    { d with enabled := ((d.enabled.setWidth 16 &&& ~~~mask) ||| (v &&& mask)).setWidth 14 }

/-- `IF` after a store: the bits written as 1 are cleared (60 R446). -/
def Devices.storePending (p : Params) (mask v : Half) (d : Devices) : Devices :=
  Devices.wakeCheck p { d with pending := d.pending &&& ~~~(v &&& mask).setWidth 14 }

/-- `IME` after a store: bit 0, where its lane is written (60 R448, 20_memory R93). -/
def Devices.storeMaster (p : Params) (mask v : Half) (d : Devices) : Devices :=
  Devices.wakeCheck p { d with master := if mask.getLsbD 0 then v.getLsbD 0 else d.master }

end Sys2Proof.Machine
end

