-- ==== Sys2Proof/Machine/Timer.lean ====
section
/-! DEFINITION. The Timer Subsystem (10_state R55 to R58, 60 R484 to R495). -/

namespace Sys2Proof.Machine

/-- The control word as a load returns it (10_state R58). -/
def TimerControl.toWord (c : TimerControl) : Half :=
  (0#8 ++ BitVec.ofBool c.start ++ BitVec.ofBool c.irq ++ 0#3 ++ BitVec.ofBool c.cascade ++ c.prescaler : BitVec 16)

/-- The state bits of a control word (10_state R58). -/
def TimerControl.ofWord (w : Half) : TimerControl :=
  { prescaler := w.extractLsb' 0 2, cascade := w.getLsbD 2, irq := w.getLsbD 6, start := w.getLsbD 7 }

/-- `P_PRESCALER` of a control word: cycles per tick. -/
def TimerControl.cycles (p : Params) (c : TimerControl) : Nat := p.prescaler[c.prescaler.toNat]'c.prescaler.isLt

/-- `free_running(t)` (60 R485); channel 0's cascade flag is ignored. -/
def freeRunning (t : Fin 4) (c : TimerControl) : Bool := t == 0 || !c.cascade

/-- Replace channel `t`. -/
def Devices.setTimer (d : Devices) (t : Fin 4) (ch : TimerChannel) : Devices :=
  { d with timers := d.timers.set t.val ch t.isLt }

/-- The cycles from `now` until `o`, in whole ticks of `p` cycles, rounded up. -/
def ticksUntil (now o p : Nat) : Nat := (o - now + (p - 1)) / p

/-- `live(t)` (60 R487, R488): the derived counter of a started free-running channel, else the stored one. -/
def liveCounter (p : Params) (now : Nat) (t : Fin 4) (ch : TimerChannel) : Half :=
  match ch.control.start && freeRunning t ch.control, ch.overflowAt with
  | true, some o => BitVec.ofNat 16 (0x10000 - ticksUntil now o (ch.control.cycles p))
  | _, _ => ch.counter

/-- The cycle of the next overflow of a channel whose counter is `counter` at cycle `at` (60 R489). -/
def overflowCycle (p : Params) (from' : Nat) (c : TimerControl) (counter : Half) : Nat :=
  from' + c.cycles p * (0x10000 - counter.toNat)

/-- A store to TMCNT_L (60 R484). -/
def Devices.storeReload (t : Fin 4) (mask v : Half) (d : Devices) : Devices :=
  let ch := d.timers[t]
  d.setTimer t { ch with reload := (ch.reload &&& ~~~mask) ||| (v &&& mask) }

/-- The channel after its control word becomes `c` at cycle `now` (60 R485). -/
def TimerChannel.withControl (p : Params) (now : Nat) (t : Fin 4) (ch : TimerChannel) (c : TimerControl) : TimerChannel :=
  let counter := if ch.control.start then liveCounter p now t ch else ch.counter
  let counter := if !ch.control.start && c.start then ch.reload else counter
  { ch with
    counter := counter
    control := c
    overflowAt := if c.start && freeRunning t c then some (overflowCycle p now c counter) else none }

/-- A store that covers the low byte of TMCNT_H (60 R485); one that does not changes nothing (60 R486). -/
def Devices.storeTimerControl (p : Params) (t : Fin 4) (mask v : Half) (d : Devices) : Devices :=
  if mask.getLsbD 0 then
    let ch := d.timers[t]
    d.setTimer t (ch.withControl p d.now t (TimerControl.ofWord ((ch.control.toWord &&& ~~~mask) ||| (v &&& mask))))
  else d

/-- The next channel is started and counts on this one's overflow (60 R491, R493). -/
def TimerChannel.cascades (ch : TimerChannel) : Bool := ch.control.start && ch.control.cascade

/-- Reload a channel that overflows at cycle `at`, and schedule it anew where it is free-running (60 R491). -/
def TimerChannel.reloaded (p : Params) (t : Fin 4) (at' : Nat) (ch : TimerChannel) : TimerChannel :=
  { ch with
    counter := ch.reload
    overflowAt := if freeRunning t ch.control then some (overflowCycle p at' ch.control ch.reload) else ch.overflowAt }

/-- The interrupt of an overflow and the notice to the audio mixer (60 R492). -/
def Devices.announce (p : Params) (t : Fin 4) (d : Devices) : Devices :=
  let d := if d.timers[t].control.irq then Devices.raise p (3 + t.val) d else d
  if t.val ≤ 1 then { d with notices := d.notices ++ [t.val] } else d

/-- `overflow(t, at)` for the first channel `t` of the list, the others being the channels after it (60 R491, R493). -/
def overflowChain (p : Params) (at' : Nat) : List (Fin 4) → Devices → Devices
  | [], d => d
  | t :: rest, d =>
    let d := Devices.announce p t (d.setTimer t (d.timers[t].reloaded p t at'))
    match rest with
    | [] => d
    | u :: _ =>
      if d.timers[u].cascades then
        let counter := d.timers[u].counter + 1
        let d := d.setTimer u { d.timers[u] with counter := counter }
        if counter = 0 then overflowChain p at' rest d else d
      else d

/-- The channels, in order. -/
def channels : List (Fin 4) := [0, 1, 2, 3]

/-- `overflow(t, at)` (60 R491). -/
def Devices.overflow (p : Params) (t : Fin 4) (at' : Nat) (d : Devices) : Devices :=
  overflowChain p at' (channels.drop t.val) d

/-- The overflow cycle of a started free-running channel (60 R490). -/
def Devices.dueAt (d : Devices) (t : Fin 4) : Option Nat :=
  if d.timers[t].control.start && freeRunning t d.timers[t].control then d.timers[t].overflowAt else none

/-- The earlier of two channels with their cycles, the first on a tie. -/
def earlier (a : Option (Fin 4 × Nat)) (b : Option (Fin 4 × Nat)) : Option (Fin 4 × Nat) :=
  match a, b with
  | none, b => b
  | a, none => a
  | some x, some y => if y.2 < x.2 then some y else some x

/-- The started free-running channel with the least overflow cycle, the lowest on a tie (60 R490). -/
def Devices.nextDue (d : Devices) : Option (Fin 4 × Nat) :=
  channels.foldl (fun best t => earlier best ((d.dueAt t).map fun o => (t, o))) none

/-- `cycles_until_next_wake()` (60 R494), none where there is no bound. -/
def Devices.cyclesUntilNextWake (d : Devices) : Option Nat := d.nextDue.map fun x => x.2 - d.now

/-- The number of overflows that can fall due at or before `target`: each moves its channel at least one cycle on. -/
def Devices.overflowBound (target : Nat) (d : Devices) : Nat :=
  (channels.map fun t => match d.dueAt t with
    | some o => target + 1 - o
    | none => 0).sum

/-- Perform the overflows due at or before `target`, in time order, at most `n` of them (60 R490). -/
def runOverflows (p : Params) (target : Nat) : Nat → Devices → Devices
  | 0, d => d
  | n + 1, d =>
    match d.nextDue with
    | some (t, o) => if o ≤ target then runOverflows p target n (Devices.overflow p t o d) else d
    | none => d

/-- `step(elapsed_cycles)` (60 R490). -/
def Devices.timerStep (p : Params) (elapsed : Nat) (d : Devices) : Devices :=
  let target := d.now + elapsed
  { runOverflows p target (d.overflowBound target) d with now := target }

end Sys2Proof.Machine
end

