-- ==== Sys2Proof/Machine/DmaRegs.lean ====
section
/-! DEFINITION. The registers and triggers of the DMA channels (10_state R50 to R52, 60 R471 to R474). -/

namespace Sys2Proof.Machine

/-- The address mode of a 2-bit code (10_state R51). -/
def AddrMode.ofBits (b : BitVec 2) : AddrMode :=
  if b = 0 then .increment else if b = 1 then .decrement else if b = 2 then .fixed else .reload

/-- The 2-bit code of an address mode (10_state R51). -/
def AddrMode.bits : AddrMode → BitVec 2
  | .increment => 0
  | .decrement => 1
  | .fixed => 2
  | .reload => 3

/-- The trigger of a 2-bit code (10_state R51). -/
def Trigger.ofBits (b : BitVec 2) : Trigger :=
  if b = 0 then .immediate else if b = 1 then .vblank else if b = 2 then .hblank else .special

/-- The 2-bit code of a trigger (10_state R51). -/
def Trigger.bits : Trigger → BitVec 2
  | .immediate => 0
  | .vblank => 1
  | .hblank => 2
  | .special => 3

/-- The control word as a load returns it (10_state R51, 60 R472). -/
def DmaControl.toWord (c : DmaControl) : Half :=
  (BitVec.ofBool c.enable ++ BitVec.ofBool c.irq ++ c.trigger.bits ++ BitVec.ofBool c.bit11 ++
    BitVec.ofBool c.isWord ++ BitVec.ofBool c.repeats ++ c.srcMode.bits ++ c.dstMode.bits ++ 0#5 : BitVec 16)

/-- The state bits of a control word (10_state R51). -/
def DmaControl.ofWord (w : Half) : DmaControl :=
  { dstMode := .ofBits (w.extractLsb' 5 2), srcMode := .ofBits (w.extractLsb' 7 2), repeats := w.getLsbD 9
    isWord := w.getLsbD 10, bit11 := w.getLsbD 11, trigger := .ofBits (w.extractLsb' 12 2)
    irq := w.getLsbD 14, enable := w.getLsbD 15 }

/-- Replace channel `ch`. -/
def Devices.setDma (d : Devices) (ch : Fin 4) (c : DmaChannel) : Devices :=
  { d with dma := d.dma.set ch.val c ch.isLt }

/-- `count(ch)` (60 R472). -/
def DmaChannel.count (p : Params) (ch : Fin 4) (c : DmaChannel) : Nat :=
  let n := c.cnt &&& p.dmaCountMask[ch]
  if n = 0 then p.dmaCountZero[ch] else n.toNat

/-- `evaluate_trigger(ch)` (60 R473). -/
def DmaChannel.evaluateTrigger (c : DmaChannel) : DmaChannel :=
  if c.ctrl.enable && c.ctrl.trigger == .immediate then { c with active := true } else c

/-- The channel after its control word becomes `ctrl` (60 R472). -/
def DmaChannel.withControl (p : Params) (ch : Fin 4) (c : DmaChannel) (ctrl : DmaControl) : DmaChannel :=
  let rises := !c.ctrl.enable && ctrl.enable
  let c := { c with ctrl := ctrl }
  let c := if rises then { c with src := c.sad, dst := c.dad, remaining := c.count p ch } else c
  let c := if ctrl.enable then c else { c with active := false }
  c.evaluateTrigger

/-- Replace the masked bits of the lower half of a 32-bit register (20_memory R93, R94). -/
def mergeLo (old : Word) (mask v : Half) : Word :=
  old.extractLsb' 16 16 ++ ((old.extractLsb' 0 16 &&& ~~~mask) ||| (v &&& mask))

/-- Replace the masked bits of the upper half of a 32-bit register (20_memory R93, R94). -/
def mergeHi (old : Word) (mask v : Half) : Word :=
  ((old.extractLsb' 16 16 &&& ~~~mask) ||| (v &&& mask)) ++ old.extractLsb' 0 16

/-- A store to CTRL (60 R472). -/
def Devices.storeDmaControl (p : Params) (ch : Fin 4) (mask v : Half) (d : Devices) : Devices :=
  let c := d.dma[ch]
  d.setDma ch (c.withControl p ch (DmaControl.ofWord ((c.ctrl.toWord &&& ~~~mask) ||| (v &&& mask))))

/-! ## External triggers (60 R474) -/

/-- Channel `ch` becomes active if it is enabled with trigger `t`. -/
def Devices.arm (t : Trigger) (ch : Fin 4) (d : Devices) : Devices :=
  if d.dma[ch].ctrl.enable && d.dma[ch].ctrl.trigger == t then d.setDma ch { d.dma[ch] with active := true } else d

/-- Every channel enabled with trigger `t` becomes active. -/
def Devices.armAll (t : Trigger) (d : Devices) : Devices := channels.foldl (fun d ch => d.arm t ch) d

/-- `signal_vblank()`. -/
def Devices.signalVblank (d : Devices) : Devices := d.armAll .vblank

/-- `signal_hblank(scanline)`. -/
def Devices.signalHblank (p : Params) (line : Nat) (d : Devices) : Devices :=
  let d := d.armAll .hblank
  if p.firstVisibleLine ≤ line ∧ line ≤ p.lastVisibleLine then d.arm .special 3 else d

/-- `fifo_refresh(ch)`. -/
def Devices.fifoRefresh (ch : Fin 4) (d : Devices) : Devices :=
  if ch = 1 ∨ ch = 2 then d.arm .special ch else d

end Sys2Proof.Machine
end

