-- ==== Sys2Proof/Machine/Bus.lean ====
section
/-! DEFINITION. The Memory Bus: the top-level node and the I/O sub-bus, which pick the node that owns an address and
forward the call whole; the core's register blocks, which are leaves and compose bytes and words of halfwords; and the six
bus operations (20_memory R70 to R97). A load answers none, a store answers none, where the success flag is false. -/

namespace Sys2Proof.Machine

/-! ## Which leaf owns an address (20_memory R73, R80 to R86) -/

/-- The register blocks of the core (20_memory R85). -/
inductive RegBlock where
  | dma
  | timers
  /-- The Interrupt/Power Controller. -/
  | power
  deriving DecidableEq, Repr

/-- The leaf that a call arrives at, with the offset in the leaf's own frame (20_memory R73). -/
inductive Target where
  /-- Unmapped (20_memory R75, R86). -/
  | absent
  /-- A region of the external node of a bank; bank 4 is `P_IO_EXTERNAL`. -/
  | node (bank off : Nat) (r : Region)
  /-- A register block of the core. -/
  | block (b : RegBlock) (off : Nat)
  deriving DecidableEq, Repr

/-- The region of an external node that answers at a local offset (20_memory R84). -/
def regionOf (n : Node) (off : Nat) : Option Region := n.find? fun r => r.first ≤ off / 4 && off / 4 ≤ r.last

/-- The storage cell of the byte at a local offset of a region (20_memory R84, R88). -/
def cellIn (r : Region) (off : Nat) : Nat := 4 * (r.base + (off / 4 - r.first) % 2 ^ r.bits) + off % 4

/-- An external node given a local offset (20_memory R84). -/
def nodeTarget (bank off : Nat) (n : Node) : Target :=
  match regionOf n off with
  | some r => .node bank off r
  | none => .absent

/-- The I/O sub-bus: the child that owns a local offset of bank 4 (20_memory R85, R86). -/
def ioTarget (p : Params) (off : Nat) : Target :=
  if 0x0B0 ≤ off ∧ off < 0x0E0 then .block .dma (off - 0x0B0)
  else if 0x100 ≤ off ∧ off < 0x110 then .block .timers (off - 0x100)
  else if (0x200 ≤ off ∧ off < 0x20C) ∨ (0x300 ≤ off ∧ off < 0x302) then .block .power (off - 0x200)
  else nodeTarget 4 off p.ioExternal

/-- The top-level node: the leaf that owns an address (20_memory R80, R84). -/
def target (p : Params) (a : Word) : Target :=
  if p.upperAddr = .unmapped ∧ 2 ^ 28 ≤ a.toNat then .absent
  else if a.toNat / 2 ^ 24 % 16 = 4 then ioTarget p (a.toNat % 2 ^ 24)
  else nodeTarget (a.toNat / 2 ^ 24 % 16) (a.toNat % 2 ^ 24)
    (p.banks[a.toNat / 2 ^ 24 % 16]'(Nat.mod_lt _ (by decide)))

/-- The storage cell of the byte at an address that an external node owns; 0 at any other address. -/
def cellOf (p : Params) (a : Word) : Nat :=
  match target p a with
  | .node _ off r => cellIn r off
  | .absent => 0
  | .block _ _ => 0

/-! ## The register blocks of the core (20_memory R85, R92 to R94) -/

/-- The register behind a halfword of a block (10_state R47, R51, R58). -/
inductive IoReg where
  | dmaSadLo (ch : Fin 4)
  | dmaSadHi (ch : Fin 4)
  | dmaDadLo (ch : Fin 4)
  | dmaDadHi (ch : Fin 4)
  | dmaCount (ch : Fin 4)
  | dmaControl (ch : Fin 4)
  | timerCounter (t : Fin 4)
  | timerControl (t : Fin 4)
  | interruptEnable
  | interruptFlags
  | waitControl
  | masterEnable
  /-- POSTFLG in the lower lane, HALTCNT in the upper. -/
  | postHalt
  /-- Padding beside WAITCNT and IME (20_memory R86). -/
  | padding
  /-- No register: the upper half of a word at POSTFLG (log entry 17). -/
  | unclaimed
  deriving DecidableEq, Repr

/-- The register of the halfword of a block that holds offset `off`. -/
def RegBlock.reg (b : RegBlock) (off : Nat) : IoReg :=
  match b with
  | .dma =>
    match off / 2 % 6 with
    | 0 => .dmaSadLo (Fin.ofNat 4 (off / 12))
    | 1 => .dmaSadHi (Fin.ofNat 4 (off / 12))
    | 2 => .dmaDadLo (Fin.ofNat 4 (off / 12))
    | 3 => .dmaDadHi (Fin.ofNat 4 (off / 12))
    | 4 => .dmaCount (Fin.ofNat 4 (off / 12))
    | _ => .dmaControl (Fin.ofNat 4 (off / 12))
  | .timers => if off % 4 < 2 then .timerCounter (Fin.ofNat 4 (off / 4)) else .timerControl (Fin.ofNat 4 (off / 4))
  | .power =>
    match off / 2 with
    | 0 => .interruptEnable
    | 1 => .interruptFlags
    | 2 => .waitControl
    | 3 => .padding
    | 4 => .masterEnable
    | 5 => .padding
    | 0x80 => .postHalt
    | _ => .unclaimed

/-- `load16` of a register; `draw` is the index of a free value (60 R471). -/
def IoReg.load (p : Params) (d : Devices) (draw : Nat) (r : IoReg) : Option Half :=
  match r with
  | .dmaSadLo ch => some (Config.dmaReadback draw (12 * ch.val))
  | .dmaSadHi ch => some (Config.dmaReadback draw (12 * ch.val + 2))
  | .dmaDadLo ch => some (Config.dmaReadback draw (12 * ch.val + 4))
  | .dmaDadHi ch => some (Config.dmaReadback draw (12 * ch.val + 6))
  | .dmaCount ch => some (Config.dmaReadback draw (12 * ch.val + 8))
  | .dmaControl ch => some d.dma[ch].ctrl.toWord
  | .timerCounter t => some (liveCounter p d.now t d.timers[t])
  | .timerControl t => some d.timers[t].control.toWord
  | .interruptEnable => some (d.enabled.setWidth 16)
  | .interruptFlags => some (d.pending.setWidth 16)
  | .waitControl => some d.waitcnt
  | .masterEnable => some ((BitVec.ofBool d.master).setWidth 16)
  | .postHalt => some (d.postflg.setWidth 16)
  | .padding => some 0
  | .unclaimed => none

/-- A store of the lanes of `mask` to a register (20_memory R93), with its side effects (R97). A register never fails a
store. -/
def IoReg.store (p : Params) (mask v : Half) (r : IoReg) (d : Devices) : Devices :=
  match r with
  | .dmaSadLo ch => d.setDma ch { d.dma[ch] with sad := mergeLo d.dma[ch].sad mask v }
  | .dmaSadHi ch => d.setDma ch { d.dma[ch] with sad := mergeHi d.dma[ch].sad mask v }
  | .dmaDadLo ch => d.setDma ch { d.dma[ch] with dad := mergeLo d.dma[ch].dad mask v }
  | .dmaDadHi ch => d.setDma ch { d.dma[ch] with dad := mergeHi d.dma[ch].dad mask v }
  | .dmaCount ch => d.setDma ch { d.dma[ch] with cnt := (d.dma[ch].cnt &&& ~~~mask) ||| (v &&& mask) }
  | .dmaControl ch => d.storeDmaControl p ch mask v
  | .timerCounter t => d.storeReload t mask v
  | .timerControl t => d.storeTimerControl p t mask v
  | .interruptEnable => d.storeEnable p mask v
  | .interruptFlags => d.storePending p mask v
  | .waitControl => { d with waitcnt := (d.waitcnt &&& ~~~mask) ||| (v &&& mask) }
  | .masterEnable => d.storeMaster p mask v
  | .postHalt =>
    let d := if mask.getLsbD 0 then { d with postflg := v.extractLsb' 0 8 } else d
    if mask.getLsbD 8 then d.haltControl (v.extractLsb' 8 8) else d
  | .padding => d
  | .unclaimed => d

/-- `load16` of a block. -/
def RegBlock.load16 (p : Params) (d : Devices) (draw : Nat) (b : RegBlock) (off : Nat) : Option Half :=
  (b.reg off).load p d draw

/-- `load8` of a block: the containing halfword, shifted (20_memory R92). -/
def RegBlock.load8 (p : Params) (d : Devices) (draw : Nat) (b : RegBlock) (off : Nat) : Option Byte :=
  (b.load16 p d draw off).map fun h => h.extractLsb' (8 * (off % 2)) 8

/-- `load32` of a block: two halfwords, the flag the AND of the two (20_memory R94). -/
def RegBlock.load32 (p : Params) (d : Devices) (draw : Nat) (b : RegBlock) (off : Nat) : Option Word :=
  match b.load16 p d draw off, b.load16 p d draw (off + 2) with
  | some lo, some hi => some (hi ++ lo)
  | _, _ => none

/-- `store8` of a block: one lane (20_memory R93). -/
def RegBlock.store8 (p : Params) (b : RegBlock) (off : Nat) (v : Byte) (d : Devices) : Devices :=
  if off % 2 = 0 then (b.reg off).store p 0x00FF (0#8 ++ v) d else (b.reg off).store p 0xFF00 (v ++ 0#8) d

/-- `store16` of a block. -/
def RegBlock.store16 (p : Params) (b : RegBlock) (off : Nat) (v : Half) (d : Devices) : Devices :=
  (b.reg off).store p 0xFFFF v d

/-- `store32` of a block: two halfwords, the lower first (20_memory R94). -/
def RegBlock.store32 (p : Params) (b : RegBlock) (off : Nat) (v : Word) (d : Devices) : Devices :=
  b.store16 p (off + 2) (v.extractLsb' 16 16) (b.store16 p off (v.extractLsb' 0 16) d)

/-! ## The external nodes (20_memory R70 to R72, R84) -/

/-- What a region answers to a load whose storage holds `cells` and whose block would answer `free`. -/
def answerBy {w : Nat} (l : LoadRule) (cells : BitVec w) (free : Option Word) : Option (BitVec w) :=
  match l with
  | .cells => some cells
  | .zero => some 0
  | .fails => none
  | .free => free.map (·.setWidth w)

/-- What the block behind a free region answers to a load now (log entry 16). -/
def State.freeLoad (s : State) (bank off bytes : Nat) : Option Word :=
  Config.nodeLoad s.nodeStores s.draws bank off bytes

/-- What a region does with a store that would make its storage `mem`. -/
def State.storeBy (s : State) (rule : StoreRule) (mem : List Host.Cell) (call : NodeStore) : Option State :=
  match rule with
  | .cells => some { s with mem := mem }
  | .ignored => some s
  | .fails => none
  | .free =>
    if Config.nodeAccepts s.nodeStores s.draws call then some { s with nodeStores := call :: s.nodeStores } else none

/-! ## The six operations of the top-level node (20_memory R72, R73) -/

/-- `Bus.load8`. -/
def State.load8 (s : State) (a : Word) : Option Byte :=
  match target s.params a with
  | .absent => none
  | .node bank off r => answerBy r.load (Memory.read s.mem (cellIn r off)) (s.freeLoad bank off 1)
  | .block b off => b.load8 s.params s.dev s.draws off

/-- `Bus.load16`; the caller aligns (20_memory R90). -/
def State.load16 (s : State) (a : Word) : Option Half :=
  match target s.params a with
  | .absent => none
  | .node bank off r => answerBy r.load (Memory.read16 s.mem (cellIn r off)) (s.freeLoad bank off 2)
  | .block b off => b.load16 s.params s.dev s.draws off

/-- `Bus.load32`; the caller aligns (20_memory R90). -/
def State.load32 (s : State) (a : Word) : Option Word :=
  match target s.params a with
  | .absent => none
  | .node bank off r => answerBy r.load (Memory.read32 s.mem (cellIn r off)) (s.freeLoad bank off 4)
  | .block b off => b.load32 s.params s.dev s.draws off

/-- `Bus.store8`. -/
def State.store8 (s : State) (a : Word) (v : Byte) : Option State :=
  match target s.params a with
  | .absent => some s
  | .node bank off r => s.storeBy r.store (Memory.write s.mem (cellIn r off) v) ⟨bank, off, 1, v.setWidth 32⟩
  | .block b off => some { s with dev := b.store8 s.params off v s.dev }

/-- `Bus.store16`; the caller aligns (20_memory R90). -/
def State.store16 (s : State) (a : Word) (v : Half) : Option State :=
  match target s.params a with
  | .absent => some s
  | .node bank off r => s.storeBy r.store (Memory.write16 s.mem (cellIn r off) v) ⟨bank, off, 2, v.setWidth 32⟩
  | .block b off => some { s with dev := b.store16 s.params off v s.dev }

/-- `Bus.store32`; the caller aligns (20_memory R90). -/
def State.store32 (s : State) (a : Word) (v : Word) : Option State :=
  match target s.params a with
  | .absent => some s
  | .node bank off r => s.storeBy r.store (Memory.write32 s.mem (cellIn r off) v) ⟨bank, off, 4, v⟩
  | .block b off => some { s with dev := b.store32 s.params off v s.dev }

end Sys2Proof.Machine
end

