-- ==== Sys2Proof/Machine/Operands.lean ====
section
/-! DEFINITION. The operand forms: the shifter operands (42 R193 to R196), the addresses of single transfers
(44 R240, R250, 48 R371), of block transfers (45 R270) and of branches (41 R180, 48 R405 to R411), and the register
lists. -/

namespace Sys2Proof.Machine

/-! ## Shifter operands (42 R193 to R196) -/

/-- A shifter operand with its carry (42 R191). -/
structure Shifted where
  value : Word
  carry : Bool
  deriving DecidableEq, Repr

/-- The rotated immediate (42 R193); `c` is CPSR.C. -/
def immOperand (rot : BitVec 4) (imm8 : BitVec 8) (c : Bool) : Shifted :=
  let op2 := (imm8.setWidth 32).rotateRight (2 * rot.toNat)
  { value := op2, carry := if rot = 0 then c else op2.msb }

/-- Every bit is the sign bit of `m`. -/
def signWord (m : Word) : Word := if m.msb then 0xFFFFFFFF else 0

/-- `m` shifted by an immediate (42 R194); `c` is CPSR.C. -/
def shiftImm (sh : Shift) (n : BitVec 5) (m : Word) (c : Bool) : Shifted :=
  let k := n.toNat
  match sh with
  | .lsl => if n = 0 then { value := m, carry := c } else { value := m <<< k, carry := m.getLsbD (32 - k) }
  | .lsr => if n = 0 then { value := 0, carry := m.msb } else { value := m >>> k, carry := m.getLsbD (k - 1) }
  | .asr =>
    if n = 0 then { value := signWord m, carry := m.msb } else { value := m.sshiftRight k, carry := m.getLsbD (k - 1) }
  | .ror =>
    if n = 0 then { value := BitVec.ofBool c ++ m.extractLsb' 1 31, carry := m.getLsbD 0 }
    else { value := m.rotateRight k, carry := m.getLsbD (k - 1) }

/-- `m` shifted by a register whose low byte is `n` (42 R195); `c` is CPSR.C. -/
def shiftReg (sh : Shift) (n : BitVec 8) (m : Word) (c : Bool) : Shifted :=
  let k := n.toNat
  if k = 0 then { value := m, carry := c }
  else
    match sh with
    | .lsl =>
      if k < 32 then { value := m <<< k, carry := m.getLsbD (32 - k) }
      else if k = 32 then { value := 0, carry := m.getLsbD 0 }
      else { value := 0, carry := false }
    | .lsr =>
      if k < 32 then { value := m >>> k, carry := m.getLsbD (k - 1) }
      else if k = 32 then { value := 0, carry := m.msb }
      else { value := 0, carry := false }
    | .asr =>
      if k < 32 then { value := m.sshiftRight k, carry := m.getLsbD (k - 1) }
      else { value := signWord m, carry := m.msb }
    | .ror =>
      if k % 32 = 0 then { value := m, carry := m.msb }
      else { value := m.rotateRight (k % 32), carry := m.getLsbD (k % 32 - 1) }

/-- A register read where r15 reads 4 bytes further: Rn and Rm of a register-specified shift (42 R196), and the value
that a store of r15 stores (44 R247). -/
def State.regAhead (s : State) (r : Reg) : Word := if r = 15 then s.reg 15 + 4 else s.reg r

/-- The operand of format A_DP_REG_IS (42 R194). -/
def State.operandIs (s : State) (shamt : BitVec 5) (sh : Shift) (rm : Reg) : Shifted :=
  shiftImm sh shamt (s.reg rm) s.cpsr.c

/-- The operand of format A_DP_REG_RS (42 R195, R196). -/
def State.operandRs (s : State) (rs : Reg) (sh : Shift) (rm : Reg) : Shifted :=
  shiftReg sh ((s.reg rs).setWidth 8) (s.regAhead rm) s.cpsr.c

/-! ## Single transfers (44 R240, R250) -/

/-- The addresses of a single transfer: where it accesses, what the base register gets, and whether it gets it. -/
structure Transfer where
  ea  : Word
  idx : Word
  wb  : Bool
  deriving DecidableEq, Repr

/-- `idx`, `ea` and `wb` from P, U, W, the base and the offset (44 R240). -/
def transfer (p u w : Bool) (base off : Word) : Transfer :=
  let idx := if u then base + off else base - off
  { ea := if p then idx else base, idx := idx, wb := !p || w }

/-- The zero-extended 12-bit offset of format A_SDT_IMM (44 R240). -/
def offset12 (imm12 : BitVec 12) : Word := imm12.setWidth 32

/-- The shifted register offset of format A_SDT_REG; its carry is dropped (44 R240). -/
def State.offsetReg (s : State) (shamt : BitVec 5) (sh : Shift) (rm : Reg) : Word :=
  (s.operandIs shamt sh rm).value

/-- The zero-extended 8-bit offset of format A_HW_IMM (44 R250). -/
def offsetHalf (immH immL : BitVec 4) : Word := (immH ++ immL : BitVec 8).setWidth 32

/-! ## Narrow immediates (30_encoding R127) -/

/-- `zext(imm) * 4`. -/
def scaled4 (imm : BitVec n) : Word := imm.setWidth 32 * 4

/-- `zext(imm) * 2`. -/
def scaled2 (imm : BitVec n) : Word := imm.setWidth 32 * 2

/-- The address of a PC-relative narrow load and of `T.ADD.pc` (48 R370, 47 R350). -/
def State.pcRelative (s : State) (imm8 : BitVec 8) : Word := align4 (s.reg 15) + scaled4 imm8

/-! ## Branch offsets -/

/-- `sext_26(imm24 :: 00)` (41 R180). -/
def branchOffset (imm24 : BitVec 24) : Word := (imm24 ++ 0#2 : BitVec 26).signExtend 32

/-- `sext(imm :: 0)` of the narrow branches (48 R405, R407). -/
def halfOffset (imm : BitVec n) : Word := (imm ++ 0#1).signExtend 32

/-- `sext_11(imm11) << 12` (48 R410). -/
def linkHigh (imm11 : BitVec 11) : Word := imm11.signExtend 32 <<< 12

/-- `zext_11(imm11) << 1` (48 R411). -/
def linkLow (imm11 : BitVec 11) : Word := imm11.setWidth 32 <<< 1

/-! ## Block transfers (45 R270) -/

/-- The sixteen register numbers, ascending. -/
def allRegs : List Reg := [0, 1, 2, 3, 4, 5, 6, 7, 8, 9, 10, 11, 12, 13, 14, 15]

/-- The registers of a list, ascending. -/
def regList (rlist : BitVec 16) : List Reg := allRegs.filter fun r => rlist.getLsbD r.toNat

/-- The narrow 8-bit list with one more register (48 R390, R391, R393, R394). -/
def narrowList (extra : BitVec 16) (rlist : BitVec 8) : BitVec 16 := extra ||| rlist.setWidth 16

/-- `4 * n` for the `n` registers of a list. -/
def listBytes (rlist : BitVec 16) : Word := BitVec.ofNat 32 (4 * (regList rlist).length)

/-- `start`: the address of the lowest-numbered register (45 R270). -/
def blockStart (p u : Bool) (base : Word) (rlist : BitVec 16) : Word :=
  if u then (if p then base + 4 else base)
  else if p then base - listBytes rlist else base - listBytes rlist + 4

/-- `final`: the written-back base (45 R270). -/
def blockFinal (u : Bool) (base : Word) (rlist : BitVec 16) : Word :=
  if u then base + listBytes rlist else base - listBytes rlist

/-- The base register is in the list and is not its lowest register (45 R275). -/
def baseNotLowest (rn : Reg) (rlist : BitVec 16) : Bool :=
  rlist.getLsbD rn.toNat && (regList rlist).head? != some rn

/-- The word that STM stores for register `i` (45 R274, R275); `read` reads a register other than r15. -/
def State.storedWord (s : State) (read : Reg → Word) (u w : Bool) (rn : Reg) (rlist : BitVec 16) (i : Reg) : Word :=
  if i = 15 then s.reg 15 + 4
  else if w && i == rn && baseNotLowest rn rlist then blockFinal u (s.reg rn) rlist
  else read i

end Sys2Proof.Machine
end

