-- ==== Sys2Proof/Machine/Flags.lean ====
section
/-! DEFINITION. The flag computations: AddWithCarry (42 R197), the two ways of setting the flags (42 R192, 47 R310),
the sixteen data-processing operations (42 R190) and the flags of the multiplies (43 R230). -/

namespace Sys2Proof.Machine

/-- What an operation of the ALU gives: the result, and the C and V it sets where it sets flags. -/
structure Alu where
  result : Word
  carry : Bool
  overflow : Bool
  deriving DecidableEq, Repr

/-- `AddWithCarry(a, b, cin)` (42 R197). -/
def addWithCarry (a b : Word) (cin : Bool) : Alu :=
  let usum := a.toNat + b.toNat + cin.toNat
  let result := BitVec.ofNat 32 usum
  { result := result, carry := 2 ^ 32 ≤ usum, overflow := a.msb == b.msb && result.msb != a.msb }

/-- A logical operation: C is the shifter carry, V is kept (42 R192). -/
def logical (result : Word) (sc : Bool) (p : Status) : Alu := { result := result, carry := sc, overflow := p.v }

/-- The sixteen operations, in the order of their opcodes (42 R190). -/
inductive AluOp where
  | and | eor | sub | rsb | add | adc | sbc | rsc | tst | teq | cmp | cmn | orr | mov | bic | mvn
  deriving DecidableEq, Repr

/-- The result of an operation with its C and V (42 R190, R197, R200 to R215); `p` is the CPSR before. -/
def AluOp.eval (o : AluOp) (op1 : Word) (op2 : Shifted) (p : Status) : Alu :=
  match o with
  | .and => logical (op1 &&& op2.value) op2.carry p
  | .eor => logical (op1 ^^^ op2.value) op2.carry p
  | .sub => addWithCarry op1 (~~~op2.value) true
  | .rsb => addWithCarry op2.value (~~~op1) true
  | .add => addWithCarry op1 op2.value false
  | .adc => addWithCarry op1 op2.value p.c
  | .sbc => addWithCarry op1 (~~~op2.value) p.c
  | .rsc => addWithCarry op2.value (~~~op1) p.c
  | .tst => logical (op1 &&& op2.value) op2.carry p
  | .teq => logical (op1 ^^^ op2.value) op2.carry p
  | .cmp => addWithCarry op1 (~~~op2.value) true
  | .cmn => addWithCarry op1 op2.value false
  | .orr => logical (op1 ||| op2.value) op2.carry p
  | .mov => logical op2.value op2.carry p
  | .bic => logical (op1 &&& ~~~op2.value) op2.carry p
  | .mvn => logical (~~~op2.value) op2.carry p

/-- Write the four flags; they are written directly, without `load_status` (42 R192). -/
def State.setFlags (s : State) (n z c v : Bool) : State := { s with cpsr := { s.cpsr with n := n, z := z, c := c, v := v } }

/-- Set N and Z from the result, C and V from the operation (42 R192). -/
def State.setAluFlags (s : State) (x : Alu) : State := s.setFlags x.result.msb (x.result == 0) x.carry x.overflow

/-- The flags of MUL and MLA: N and Z from the result, C a free value, V kept (43 R230 to R232, log entry 6). -/
def State.setMulFlags (s : State) (r : Word) : State := s.setFlags r.msb (r == 0) (Config.mulCarry s.draws) s.cpsr.v

/-- The flags of the long multiplies: N and Z from the 64-bit result, C and V free values (43 R233 to R236, log
entries 6 and 7). -/
def State.setLongFlags (s : State) (r : BitVec 64) : State :=
  s.setFlags r.msb (r == 0) (Config.mulCarry s.draws) (Config.mulOverflow s.draws)

end Sys2Proof.Machine
end

