-- ==== Sys2Proof/Machine/Access.lean ====
section
/-! DEFINITION. What the families of instructions share: the condition, the refused operand forms, and the loads and
stores with their Data Aborts (20_memory R100, R101, 40 R159, 44 R241, 45 R279). -/

namespace Sys2Proof.Machine

/-- A wide instruction whose condition fails changes nothing here; the step advances the PC (40 R154). -/
def State.ifPassed (s : State) (c : Cond) (k : Outcome) : Outcome := if Cond.holds c s.cpsr then k else .next s

/-- Refuse the operand combinations of the instruction's check. -/
def guarded (u : Option Unpredictable) (k : Outcome) : Outcome :=
  match u with
  | none => k
  | some u => .refused (.unpredictable u)

/-! ## Loads -/

/-- Address bit 0 is set. -/
def isOdd (a : Word) : Bool := a.getLsbD 0

/-- The word of LDR: the aligned word rotated so that the addressed byte comes lowest (44 R246, 48 R372). -/
def State.loadWord (s : State) (ea : Word) : Option Word :=
  (s.load32 (align4 ea)).map fun v => v.rotateRight (8 * (ea.toNat % 4))

/-- The zero-extended byte of LDRB (44 R244). -/
def State.loadByte (s : State) (ea : Word) : Option Word := (s.load8 ea).map fun v => v.setWidth 32

/-- The sign-extended byte of LDRSB (44 R253). -/
def State.loadSignedByte (s : State) (ea : Word) : Option Word := (s.load8 ea).map fun v => v.signExtend 32

/-- The halfword of LDRH (44 R251); at an odd address rotated by 8 as the ARM7TDMI does (44 R256). -/
def State.loadHalf (s : State) (ea : Word) : Option Word :=
  (s.load16 (align2 ea)).map fun v => if isOdd ea then (v.setWidth 32).rotateRight 8 else v.setWidth 32

/-- The sign-extended halfword of LDRSH (44 R254); at an odd address the sign-extended byte (44 R256). -/
def State.loadSignedHalf (s : State) (ea : Word) : Option Word :=
  if isOdd ea then s.loadSignedByte ea else (s.load16 ea).map fun v => v.signExtend 32

/-- A halfword load at an odd address is refused where `P_MISALIGNED_HALFWORD` says so (44 R256). -/
def State.halfwordGuard (s : State) (ea : Word) (k : Outcome) : Outcome :=
  if isOdd ea ∧ s.params.oddHalfword = .refuse then .refused .oddHalfwordLoad else k

/-- The base register after a transfer (44 R241). -/
def State.writeBack (s : State) (rn : Reg) (t : Transfer) : State := if t.wb then s.setReg rn t.idx else s

/-- Finish a load: Data Abort where the bus failed, else write-back and then the destination (44 R241, R242). -/
def State.load (s : State) (rn rd : Reg) (t : Transfer) (v : Option Word) : Outcome :=
  match v with
  | none => .next (s.enter .dataAbort)
  | some v => .next ((s.writeBack rn t).writeReg rd v)

/-- Finish a store: Data Abort where the bus failed, else write-back (44 R241, R243). -/
def State.store (s : State) (rn : Reg) (t : Transfer) (stored : Option State) : Outcome :=
  match stored with
  | none => .next (s.enter .dataAbort)
  | some s' => .next (s'.writeBack rn t)

/-- The store of a word at `ea AND NOT 3` (44 R243). -/
def State.storeWord (s : State) (ea v : Word) : Option State := s.store32 (align4 ea) v

/-- The store of the low halfword at `ea AND NOT 1` (44 R252). -/
def State.storeHalf (s : State) (ea v : Word) : Option State := s.store16 (align2 ea) (v.setWidth 16)

/-- The store of the low byte (44 R245). -/
def State.storeByte (s : State) (ea v : Word) : Option State := s.store8 ea (v.setWidth 8)

/-- A narrow load: no write-back (48 R371). -/
def State.loadLo (s : State) (rd : LoReg) (v : Option Word) : Outcome :=
  match v with
  | none => .next (s.enter .dataAbort)
  | some v => .next (s.setReg (low rd) v)

/-- A narrow store: no write-back (48 R371). -/
def State.storeLo (s : State) (stored : Option State) : Outcome :=
  match stored with
  | none => .next (s.enter .dataAbort)
  | some s' => .next s'

/-! ## Block transfers (45 R270 to R279) -/

/-- How far a block transfer came: all of it, or up to a failing bus call (45 R279). -/
inductive Block where
  /-- Every register is transferred; `target` is the word loaded for r15. -/
  | done (s : State) (target : Word)
  /-- A bus call failed; `s` has what was transferred before it. -/
  | aborted (s : State)
  deriving DecidableEq, Repr

/-- The loads of a block transfer, in the order of the list; r15's word becomes the target (45 R273); `put` writes any
other register. -/
def State.loadBlock (put : State → Reg → Word → State) : List Reg → Word → Word → State → Block
  | [], _, target, s => .done s target
  | r :: rs, addr, target, s =>
    match s.load32 (align4 addr) with
    | none => .aborted s
    | some v =>
      if r = 15 then State.loadBlock put rs (addr + 4) v s else State.loadBlock put rs (addr + 4) target (put s r v)

/-- The stores of a block transfer: the words in order at ascending addresses (45 R274). -/
def State.storeBlock : List Word → Word → State → Block
  | [], _, s => .done s 0
  | v :: vs, addr, s =>
    match s.store32 (align4 addr) v with
    | none => .aborted s
    | some s' => State.storeBlock vs (addr + 4) s'

/-- Finish a block transfer: Data Abort where it was cut short, else `k` (45 R279). -/
def Block.finish (b : Block) (k : State → Word → Outcome) : Outcome :=
  match b with
  | .aborted s => .next (s.enter .dataAbort)
  | .done s target => k s target

/-- The base write-back of a load: lost where the base is in the list (45 R273). -/
def State.blockBase (s : State) (w : Bool) (rn : Reg) (rlist : BitVec 16) (final : Word) : State :=
  if w && !rlist.getLsbD rn.toNat then s.setReg rn final else s

/-- The PC write of a block load (45 R273). -/
def State.blockPc (s : State) (rlist : BitVec 16) (target : Word) : State :=
  if rlist.getLsbD 15 then s.branchTo target else s

end Sys2Proof.Machine
end

