-- ==== Sys2Proof/Machine/BlockSwap.lean ====
section
/-! DEFINITION. Wide block transfers and swap (45_arm_block_and_swap). -/

namespace Sys2Proof.Machine

/-! ## Common (45 R270 to R279) -/

/-- The loads of LDM with the list `rlist`; `put` writes a register other than r15 (45 R270, R273). -/
def State.ldmLoads (st : State) (put : State → Reg → Word → State) (p u : Bool) (rn : Reg) (rlist : BitVec 16) : Block :=
  State.loadBlock put (regList rlist) (blockStart p u (st.reg rn) rlist) 0 st

/-- The stores of STM with the list `rlist`; `read` reads a register other than r15 (45 R270, R274). -/
def State.stmStores (st : State) (read : Reg → Word) (p u w : Bool) (rn : Reg) (rlist : BitVec 16) : Block :=
  State.storeBlock ((regList rlist).map (st.storedWord read u w rn rlist)) (blockStart p u (st.reg rn) rlist) st

/-- LDM with S = 0 (45 R273). -/
def State.loadMultiple (st : State) (p u w : Bool) (rn : Reg) (rlist : BitVec 16) : Outcome :=
  (st.ldmLoads State.setReg p u rn rlist).finish fun t target =>
    .next ((t.blockBase w rn rlist (blockFinal u (st.reg rn) rlist)).blockPc rlist target)

/-- STM with S = 0 (45 R274). -/
def State.storeMultiple (st : State) (p u w : Bool) (rn : Reg) (rlist : BitVec 16) : Outcome :=
  (st.stmStores st.reg p u w rn rlist).finish fun t _ =>
    .next (if w then t.setReg rn (blockFinal u (st.reg rn) rlist) else t)

/-- LDM of the user bank; its check has refused W = 1 (45 R276). -/
def State.loadUser (st : State) (p u : Bool) (rn : Reg) (rlist : BitVec 16) : Outcome :=
  (st.ldmLoads State.setUsrReg p u rn rlist).finish fun t _ => .next t

/-- STM of the user bank; its check has refused W = 1 (45 R276). -/
def State.storeUser (st : State) (p u : Bool) (rn : Reg) (rlist : BitVec 16) : Outcome :=
  (st.stmStores st.usrReg p u false rn rlist).finish fun t _ => .next t

/-- LDM that restores the CPSR: refused where there is no SPSR (U1); the CPSR is restored after the last load and the
write-back, before the PC write (45 R277). -/
def State.loadReturn (st : State) (p u w : Bool) (rn : Reg) (rlist : BitVec 16) : Outcome :=
  if st.cpsr.mode.hasSpsr then
    (st.ldmLoads State.setReg p u rn rlist).finish fun t target =>
      (t.blockBase w rn rlist (blockFinal u (st.reg rn) rlist)).restoreStatus fun r => .next (r.branchTo target)
  else .refused .noSpsr

/-- The end of a swap: Data Abort where the load or the store failed, else write Rd (45 R284). -/
def State.swap (st : State) (rd : Reg) (loaded : Option Word) (stored : Option State) : Outcome :=
  match loaded, stored with
  | some v, some t => .next (t.setReg rd v)
  | _, _ => .next (st.enter .dataAbort)

/-! ## The meanings -/

/-- `STM` (45 R274). -/
def execStm (c : Cond) (p u w : Bool) (rn : Reg) (rlist : BitVec 16) (st : State) : Outcome :=
  st.ifPassed c (guarded (checkBlock rn rlist) (st.storeMultiple p u w rn rlist))

/-- `LDM` (45 R273). -/
def execLdm (c : Cond) (p u w : Bool) (rn : Reg) (rlist : BitVec 16) (st : State) : Outcome :=
  st.ifPassed c (guarded (checkBlock rn rlist) (st.loadMultiple p u w rn rlist))

/-- `STM.user` (45 R276). -/
def execStmUser (c : Cond) (p u w : Bool) (rn : Reg) (rlist : BitVec 16) (st : State) : Outcome :=
  st.ifPassed c (guarded (checkUserBlock w rn rlist) (st.storeUser p u rn rlist))

/-- `LDM.user` (45 R276). -/
def execLdmUser (c : Cond) (p u w : Bool) (rn : Reg) (rlist : BitVec 15) (st : State) : Outcome :=
  st.ifPassed c (guarded (checkUserBlock w rn (0#1 ++ rlist)) (st.loadUser p u rn (0#1 ++ rlist)))

/-- `LDM.cpsr` (45 R277). -/
def execLdmCpsr (c : Cond) (p u w : Bool) (rn : Reg) (rlist : BitVec 15) (st : State) : Outcome :=
  st.ifPassed c (guarded (checkBlock rn (1#1 ++ rlist)) (st.loadReturn p u w rn (1#1 ++ rlist)))

/-- `SWP` (45 R284). -/
def execSwp (c : Cond) (rn rd rm : Reg) (st : State) : Outcome :=
  st.ifPassed c (guarded (checkSwap rn rd rm) (st.swap rd (st.loadWord (st.reg rn)) (st.storeWord (st.reg rn) (st.reg rm))))

/-- `SWPB` (45 R285). -/
def execSwpb (c : Cond) (rn rd rm : Reg) (st : State) : Outcome :=
  st.ifPassed c (guarded (checkSwap rn rd rm) (st.swap rd (st.loadByte (st.reg rn)) (st.storeByte (st.reg rn) (st.reg rm))))

end Sys2Proof.Machine
end

