-- ==== Sys2Proof/Machine/Branch.lean ====
section
/-! DEFINITION. Wide branches (41_arm_branch). -/

namespace Sys2Proof.Machine

/-- BX in both widths: T from bit 0, then the branch (41 R184, 47 R343). -/
def State.exchange (st : State) (v : Word) : State :=
  (st.loadStatus { st.cpsr with t := v.getLsbD 0 }).branchTo (align2 v)

/-- `B` (41 R180). -/
def execB (c : Cond) (imm24 : BitVec 24) (st : State) : Outcome :=
  st.ifPassed c (.next (st.branchTo (st.reg 15 + branchOffset imm24)))

/-- `BL` (41 R181). -/
def execBl (c : Cond) (imm24 : BitVec 24) (st : State) : Outcome :=
  st.ifPassed c (.next ((st.setReg 14 (st.reg 15 - 4)).branchTo (st.reg 15 + branchOffset imm24)))

/-- `BX` (41 R184). -/
def execBx (c : Cond) (rm : Reg) (st : State) : Outcome :=
  st.ifPassed c (.next (st.exchange (st.reg rm)))

end Sys2Proof.Machine
end

