-- ==== Sys2Proof/Machine/DataProc.lean ====
section
/-! DEFINITION. Wide data processing (42_arm_data_processing): one meaning for each operation and operand format. -/

namespace Sys2Proof.Machine

/-! ## Common (42 R192, R198, R199) -/

/-- The end of an operation that writes Rd: flags where S is set; r15 is a branch, and with S a return from an
exception (42 R192, R198, R199). -/
def State.writeAlu (st : State) (s : Bool) (rd : Reg) (x : Alu) : Outcome :=
  if rd = 15 then
    if s then st.restoreStatus fun t => .next (t.branchTo x.result) else .next (st.branchTo x.result)
  else if s then .next ((st.setReg rd x.result).setAluFlags x)
  else .next (st.setReg rd x.result)

/-- An operation that writes Rd (42 R191, R192). -/
def State.dataProc (st : State) (o : AluOp) (s : Bool) (rd : Reg) (op1 : Word) (op2 : Shifted) : Outcome :=
  st.writeAlu s rd (o.eval op1 op2 st.cpsr)

/-- TST, TEQ, CMP and CMN: flags alone (42 R192). -/
def State.compare (st : State) (o : AluOp) (op1 : Word) (op2 : Shifted) : Outcome :=
  .next (st.setAluFlags (o.eval op1 op2 st.cpsr))

/-! ## The meanings -/

/-- `AND.imm` (42 R200, R193). -/
def execAndImm (c : Cond) (s : Bool) (rn rd : Reg) (rot : BitVec 4) (imm8 : BitVec 8) (st : State) : Outcome :=
  st.ifPassed c (st.dataProc .and s rd (st.reg rn) (immOperand rot imm8 st.cpsr.c))

/-- `AND.reg_is` (42 R200, R194). -/
def execAndRegIs (c : Cond) (s : Bool) (rn rd : Reg) (shamt : BitVec 5) (sh : Shift) (rm : Reg) (st : State) : Outcome :=
  st.ifPassed c (st.dataProc .and s rd (st.reg rn) (st.operandIs shamt sh rm))

/-- `AND.reg_rs` (42 R200, R195, R196). -/
def execAndRegRs (c : Cond) (s : Bool) (rn rd rs : Reg) (sh : Shift) (rm : Reg) (st : State) : Outcome :=
  st.ifPassed c (guarded (checkShiftReg rs) (st.dataProc .and s rd (st.regAhead rn) (st.operandRs rs sh rm)))

/-- `EOR.imm` (42 R201, R193). -/
def execEorImm (c : Cond) (s : Bool) (rn rd : Reg) (rot : BitVec 4) (imm8 : BitVec 8) (st : State) : Outcome :=
  st.ifPassed c (st.dataProc .eor s rd (st.reg rn) (immOperand rot imm8 st.cpsr.c))

/-- `EOR.reg_is` (42 R201, R194). -/
def execEorRegIs (c : Cond) (s : Bool) (rn rd : Reg) (shamt : BitVec 5) (sh : Shift) (rm : Reg) (st : State) : Outcome :=
  st.ifPassed c (st.dataProc .eor s rd (st.reg rn) (st.operandIs shamt sh rm))

/-- `EOR.reg_rs` (42 R201, R195, R196). -/
def execEorRegRs (c : Cond) (s : Bool) (rn rd rs : Reg) (sh : Shift) (rm : Reg) (st : State) : Outcome :=
  st.ifPassed c (guarded (checkShiftReg rs) (st.dataProc .eor s rd (st.regAhead rn) (st.operandRs rs sh rm)))

/-- `SUB.imm` (42 R202, R193). -/
def execSubImm (c : Cond) (s : Bool) (rn rd : Reg) (rot : BitVec 4) (imm8 : BitVec 8) (st : State) : Outcome :=
  st.ifPassed c (st.dataProc .sub s rd (st.reg rn) (immOperand rot imm8 st.cpsr.c))

/-- `SUB.reg_is` (42 R202, R194). -/
def execSubRegIs (c : Cond) (s : Bool) (rn rd : Reg) (shamt : BitVec 5) (sh : Shift) (rm : Reg) (st : State) : Outcome :=
  st.ifPassed c (st.dataProc .sub s rd (st.reg rn) (st.operandIs shamt sh rm))

/-- `SUB.reg_rs` (42 R202, R195, R196). -/
def execSubRegRs (c : Cond) (s : Bool) (rn rd rs : Reg) (sh : Shift) (rm : Reg) (st : State) : Outcome :=
  st.ifPassed c (guarded (checkShiftReg rs) (st.dataProc .sub s rd (st.regAhead rn) (st.operandRs rs sh rm)))

/-- `RSB.imm` (42 R203, R193). -/
def execRsbImm (c : Cond) (s : Bool) (rn rd : Reg) (rot : BitVec 4) (imm8 : BitVec 8) (st : State) : Outcome :=
  st.ifPassed c (st.dataProc .rsb s rd (st.reg rn) (immOperand rot imm8 st.cpsr.c))

/-- `RSB.reg_is` (42 R203, R194). -/
def execRsbRegIs (c : Cond) (s : Bool) (rn rd : Reg) (shamt : BitVec 5) (sh : Shift) (rm : Reg) (st : State) : Outcome :=
  st.ifPassed c (st.dataProc .rsb s rd (st.reg rn) (st.operandIs shamt sh rm))

/-- `RSB.reg_rs` (42 R203, R195, R196). -/
def execRsbRegRs (c : Cond) (s : Bool) (rn rd rs : Reg) (sh : Shift) (rm : Reg) (st : State) : Outcome :=
  st.ifPassed c (guarded (checkShiftReg rs) (st.dataProc .rsb s rd (st.regAhead rn) (st.operandRs rs sh rm)))

/-- `ADD.imm` (42 R204, R193). -/
def execAddImm (c : Cond) (s : Bool) (rn rd : Reg) (rot : BitVec 4) (imm8 : BitVec 8) (st : State) : Outcome :=
  st.ifPassed c (st.dataProc .add s rd (st.reg rn) (immOperand rot imm8 st.cpsr.c))

/-- `ADD.reg_is` (42 R204, R194). -/
def execAddRegIs (c : Cond) (s : Bool) (rn rd : Reg) (shamt : BitVec 5) (sh : Shift) (rm : Reg) (st : State) : Outcome :=
  st.ifPassed c (st.dataProc .add s rd (st.reg rn) (st.operandIs shamt sh rm))

/-- `ADD.reg_rs` (42 R204, R195, R196). -/
def execAddRegRs (c : Cond) (s : Bool) (rn rd rs : Reg) (sh : Shift) (rm : Reg) (st : State) : Outcome :=
  st.ifPassed c (guarded (checkShiftReg rs) (st.dataProc .add s rd (st.regAhead rn) (st.operandRs rs sh rm)))

/-- `ADC.imm` (42 R205, R193). -/
def execAdcImm (c : Cond) (s : Bool) (rn rd : Reg) (rot : BitVec 4) (imm8 : BitVec 8) (st : State) : Outcome :=
  st.ifPassed c (st.dataProc .adc s rd (st.reg rn) (immOperand rot imm8 st.cpsr.c))

/-- `ADC.reg_is` (42 R205, R194). -/
def execAdcRegIs (c : Cond) (s : Bool) (rn rd : Reg) (shamt : BitVec 5) (sh : Shift) (rm : Reg) (st : State) : Outcome :=
  st.ifPassed c (st.dataProc .adc s rd (st.reg rn) (st.operandIs shamt sh rm))

/-- `ADC.reg_rs` (42 R205, R195, R196). -/
def execAdcRegRs (c : Cond) (s : Bool) (rn rd rs : Reg) (sh : Shift) (rm : Reg) (st : State) : Outcome :=
  st.ifPassed c (guarded (checkShiftReg rs) (st.dataProc .adc s rd (st.regAhead rn) (st.operandRs rs sh rm)))

/-- `SBC.imm` (42 R206, R193). -/
def execSbcImm (c : Cond) (s : Bool) (rn rd : Reg) (rot : BitVec 4) (imm8 : BitVec 8) (st : State) : Outcome :=
  st.ifPassed c (st.dataProc .sbc s rd (st.reg rn) (immOperand rot imm8 st.cpsr.c))

/-- `SBC.reg_is` (42 R206, R194). -/
def execSbcRegIs (c : Cond) (s : Bool) (rn rd : Reg) (shamt : BitVec 5) (sh : Shift) (rm : Reg) (st : State) : Outcome :=
  st.ifPassed c (st.dataProc .sbc s rd (st.reg rn) (st.operandIs shamt sh rm))

/-- `SBC.reg_rs` (42 R206, R195, R196). -/
def execSbcRegRs (c : Cond) (s : Bool) (rn rd rs : Reg) (sh : Shift) (rm : Reg) (st : State) : Outcome :=
  st.ifPassed c (guarded (checkShiftReg rs) (st.dataProc .sbc s rd (st.regAhead rn) (st.operandRs rs sh rm)))

/-- `RSC.imm` (42 R207, R193). -/
def execRscImm (c : Cond) (s : Bool) (rn rd : Reg) (rot : BitVec 4) (imm8 : BitVec 8) (st : State) : Outcome :=
  st.ifPassed c (st.dataProc .rsc s rd (st.reg rn) (immOperand rot imm8 st.cpsr.c))

/-- `RSC.reg_is` (42 R207, R194). -/
def execRscRegIs (c : Cond) (s : Bool) (rn rd : Reg) (shamt : BitVec 5) (sh : Shift) (rm : Reg) (st : State) : Outcome :=
  st.ifPassed c (st.dataProc .rsc s rd (st.reg rn) (st.operandIs shamt sh rm))

/-- `RSC.reg_rs` (42 R207, R195, R196). -/
def execRscRegRs (c : Cond) (s : Bool) (rn rd rs : Reg) (sh : Shift) (rm : Reg) (st : State) : Outcome :=
  st.ifPassed c (guarded (checkShiftReg rs) (st.dataProc .rsc s rd (st.regAhead rn) (st.operandRs rs sh rm)))

/-- `TST.imm` (42 R208, R193). -/
def execTstImm (c : Cond) (rn : Reg) (_sbz rot : BitVec 4) (imm8 : BitVec 8) (st : State) : Outcome :=
  st.ifPassed c (st.compare .tst (st.reg rn) (immOperand rot imm8 st.cpsr.c))

/-- `TST.reg_is` (42 R208, R194). -/
def execTstRegIs (c : Cond) (rn : Reg) (_sbz : BitVec 4) (shamt : BitVec 5) (sh : Shift) (rm : Reg) (st : State) : Outcome :=
  st.ifPassed c (st.compare .tst (st.reg rn) (st.operandIs shamt sh rm))

/-- `TST.reg_rs` (42 R208, R195, R196). -/
def execTstRegRs (c : Cond) (rn : Reg) (_sbz : BitVec 4) (rs : Reg) (sh : Shift) (rm : Reg) (st : State) : Outcome :=
  st.ifPassed c (guarded (checkShiftReg rs) (st.compare .tst (st.regAhead rn) (st.operandRs rs sh rm)))

/-- `TEQ.imm` (42 R209, R193). -/
def execTeqImm (c : Cond) (rn : Reg) (_sbz rot : BitVec 4) (imm8 : BitVec 8) (st : State) : Outcome :=
  st.ifPassed c (st.compare .teq (st.reg rn) (immOperand rot imm8 st.cpsr.c))

/-- `TEQ.reg_is` (42 R209, R194). -/
def execTeqRegIs (c : Cond) (rn : Reg) (_sbz : BitVec 4) (shamt : BitVec 5) (sh : Shift) (rm : Reg) (st : State) : Outcome :=
  st.ifPassed c (st.compare .teq (st.reg rn) (st.operandIs shamt sh rm))

/-- `TEQ.reg_rs` (42 R209, R195, R196). -/
def execTeqRegRs (c : Cond) (rn : Reg) (_sbz : BitVec 4) (rs : Reg) (sh : Shift) (rm : Reg) (st : State) : Outcome :=
  st.ifPassed c (guarded (checkShiftReg rs) (st.compare .teq (st.regAhead rn) (st.operandRs rs sh rm)))

/-- `CMP.imm` (42 R210, R193). -/
def execCmpImm (c : Cond) (rn : Reg) (_sbz rot : BitVec 4) (imm8 : BitVec 8) (st : State) : Outcome :=
  st.ifPassed c (st.compare .cmp (st.reg rn) (immOperand rot imm8 st.cpsr.c))

/-- `CMP.reg_is` (42 R210, R194). -/
def execCmpRegIs (c : Cond) (rn : Reg) (_sbz : BitVec 4) (shamt : BitVec 5) (sh : Shift) (rm : Reg) (st : State) : Outcome :=
  st.ifPassed c (st.compare .cmp (st.reg rn) (st.operandIs shamt sh rm))

/-- `CMP.reg_rs` (42 R210, R195, R196). -/
def execCmpRegRs (c : Cond) (rn : Reg) (_sbz : BitVec 4) (rs : Reg) (sh : Shift) (rm : Reg) (st : State) : Outcome :=
  st.ifPassed c (guarded (checkShiftReg rs) (st.compare .cmp (st.regAhead rn) (st.operandRs rs sh rm)))

/-- `CMN.imm` (42 R211, R193). -/
def execCmnImm (c : Cond) (rn : Reg) (_sbz rot : BitVec 4) (imm8 : BitVec 8) (st : State) : Outcome :=
  st.ifPassed c (st.compare .cmn (st.reg rn) (immOperand rot imm8 st.cpsr.c))

/-- `CMN.reg_is` (42 R211, R194). -/
def execCmnRegIs (c : Cond) (rn : Reg) (_sbz : BitVec 4) (shamt : BitVec 5) (sh : Shift) (rm : Reg) (st : State) : Outcome :=
  st.ifPassed c (st.compare .cmn (st.reg rn) (st.operandIs shamt sh rm))

/-- `CMN.reg_rs` (42 R211, R195, R196). -/
def execCmnRegRs (c : Cond) (rn : Reg) (_sbz : BitVec 4) (rs : Reg) (sh : Shift) (rm : Reg) (st : State) : Outcome :=
  st.ifPassed c (guarded (checkShiftReg rs) (st.compare .cmn (st.regAhead rn) (st.operandRs rs sh rm)))

/-- `ORR.imm` (42 R212, R193). -/
def execOrrImm (c : Cond) (s : Bool) (rn rd : Reg) (rot : BitVec 4) (imm8 : BitVec 8) (st : State) : Outcome :=
  st.ifPassed c (st.dataProc .orr s rd (st.reg rn) (immOperand rot imm8 st.cpsr.c))

/-- `ORR.reg_is` (42 R212, R194). -/
def execOrrRegIs (c : Cond) (s : Bool) (rn rd : Reg) (shamt : BitVec 5) (sh : Shift) (rm : Reg) (st : State) : Outcome :=
  st.ifPassed c (st.dataProc .orr s rd (st.reg rn) (st.operandIs shamt sh rm))

/-- `ORR.reg_rs` (42 R212, R195, R196). -/
def execOrrRegRs (c : Cond) (s : Bool) (rn rd rs : Reg) (sh : Shift) (rm : Reg) (st : State) : Outcome :=
  st.ifPassed c (guarded (checkShiftReg rs) (st.dataProc .orr s rd (st.regAhead rn) (st.operandRs rs sh rm)))

/-- `MOV.imm` (42 R213, R193). -/
def execMovImm (c : Cond) (s : Bool) (_sbz : BitVec 4) (rd : Reg) (rot : BitVec 4) (imm8 : BitVec 8) (st : State) : Outcome :=
  st.ifPassed c (st.dataProc .mov s rd 0 (immOperand rot imm8 st.cpsr.c))

/-- `MOV.reg_is` (42 R213, R194). -/
def execMovRegIs (c : Cond) (s : Bool) (_sbz : BitVec 4) (rd : Reg) (shamt : BitVec 5) (sh : Shift) (rm : Reg) (st : State) : Outcome :=
  st.ifPassed c (st.dataProc .mov s rd 0 (st.operandIs shamt sh rm))

/-- `MOV.reg_rs` (42 R213, R195, R196). -/
def execMovRegRs (c : Cond) (s : Bool) (_sbz : BitVec 4) (rd rs : Reg) (sh : Shift) (rm : Reg) (st : State) : Outcome :=
  st.ifPassed c (guarded (checkShiftReg rs) (st.dataProc .mov s rd 0 (st.operandRs rs sh rm)))

/-- `BIC.imm` (42 R214, R193). -/
def execBicImm (c : Cond) (s : Bool) (rn rd : Reg) (rot : BitVec 4) (imm8 : BitVec 8) (st : State) : Outcome :=
  st.ifPassed c (st.dataProc .bic s rd (st.reg rn) (immOperand rot imm8 st.cpsr.c))

/-- `BIC.reg_is` (42 R214, R194). -/
def execBicRegIs (c : Cond) (s : Bool) (rn rd : Reg) (shamt : BitVec 5) (sh : Shift) (rm : Reg) (st : State) : Outcome :=
  st.ifPassed c (st.dataProc .bic s rd (st.reg rn) (st.operandIs shamt sh rm))

/-- `BIC.reg_rs` (42 R214, R195, R196). -/
def execBicRegRs (c : Cond) (s : Bool) (rn rd rs : Reg) (sh : Shift) (rm : Reg) (st : State) : Outcome :=
  st.ifPassed c (guarded (checkShiftReg rs) (st.dataProc .bic s rd (st.regAhead rn) (st.operandRs rs sh rm)))

/-- `MVN.imm` (42 R215, R193). -/
def execMvnImm (c : Cond) (s : Bool) (_sbz : BitVec 4) (rd : Reg) (rot : BitVec 4) (imm8 : BitVec 8) (st : State) : Outcome :=
  st.ifPassed c (st.dataProc .mvn s rd 0 (immOperand rot imm8 st.cpsr.c))

/-- `MVN.reg_is` (42 R215, R194). -/
def execMvnRegIs (c : Cond) (s : Bool) (_sbz : BitVec 4) (rd : Reg) (shamt : BitVec 5) (sh : Shift) (rm : Reg) (st : State) : Outcome :=
  st.ifPassed c (st.dataProc .mvn s rd 0 (st.operandIs shamt sh rm))

/-- `MVN.reg_rs` (42 R215, R195, R196). -/
def execMvnRegRs (c : Cond) (s : Bool) (_sbz : BitVec 4) (rd rs : Reg) (sh : Shift) (rm : Reg) (st : State) : Outcome :=
  st.ifPassed c (guarded (checkShiftReg rs) (st.dataProc .mvn s rd 0 (st.operandRs rs sh rm)))

end Sys2Proof.Machine
end

