-- ==== Sys2Proof/Machine/LoadStore.lean ====
section
/-! DEFINITION. Wide single loads and stores (44_arm_load_store). -/

namespace Sys2Proof.Machine

/-! ## Addressing -/

/-- The addresses of a word or byte transfer with an immediate offset (44 R240). -/
def State.addrImm (st : State) (p u w : Bool) (rn : Reg) (imm12 : BitVec 12) : Transfer :=
  transfer p u w (st.reg rn) (offset12 imm12)

/-- The addresses of a word or byte transfer with a register offset (44 R240). -/
def State.addrReg (st : State) (p u w : Bool) (rn : Reg) (shamt : BitVec 5) (sh : Shift) (rm : Reg) : Transfer :=
  transfer p u w (st.reg rn) (st.offsetReg shamt sh rm)

/-- The addresses of a halfword or signed transfer with an immediate offset (44 R250). -/
def State.addrHalfImm (st : State) (p u w : Bool) (rn : Reg) (immH immL : BitVec 4) : Transfer :=
  transfer p u w (st.reg rn) (offsetHalf immH immL)

/-- The addresses of a halfword or signed transfer with a register offset (44 R250). -/
def State.addrHalfReg (st : State) (p u w : Bool) (rn rm : Reg) : Transfer :=
  transfer p u w (st.reg rn) (st.reg rm)

/-! ## The transfers -/

/-- LDR and LDRT (44 R242, R248). -/
def State.ldr (st : State) (rn rd : Reg) (t : Transfer) : Outcome := st.load rn rd t (st.loadWord t.ea)

/-- LDRB and LDRBT (44 R244, R248). -/
def State.ldrb (st : State) (rn rd : Reg) (t : Transfer) : Outcome := st.load rn rd t (st.loadByte t.ea)

/-- STR and STRT (44 R243, R247, R248). -/
def State.str (st : State) (rn rd : Reg) (t : Transfer) : Outcome :=
  st.store rn t (st.storeWord t.ea (st.regAhead rd))

/-- STRB and STRBT (44 R245, R248). -/
def State.strb (st : State) (rn rd : Reg) (t : Transfer) : Outcome := st.store rn t (st.storeByte t.ea (st.reg rd))

/-- LDRH (44 R251, R256). -/
def State.ldrh (st : State) (rn rd : Reg) (t : Transfer) : Outcome :=
  st.halfwordGuard t.ea (st.load rn rd t (st.loadHalf t.ea))

/-- LDRSB (44 R253). -/
def State.ldrsb (st : State) (rn rd : Reg) (t : Transfer) : Outcome := st.load rn rd t (st.loadSignedByte t.ea)

/-- LDRSH (44 R254, R256). -/
def State.ldrsh (st : State) (rn rd : Reg) (t : Transfer) : Outcome :=
  st.halfwordGuard t.ea (st.load rn rd t (st.loadSignedHalf t.ea))

/-- STRH (44 R252). -/
def State.strh (st : State) (rn rd : Reg) (t : Transfer) : Outcome := st.store rn t (st.storeHalf t.ea (st.reg rd))

/-! ## The meanings -/

/-- `STRH.reg` (44 R252, R250). -/
def execStrhReg (c : Cond) (p u w : Bool) (rn rd rm : Reg) (st : State) : Outcome :=
  st.ifPassed c (guarded (checkHalfReg p w rn rd rm) (st.strh rn rd (st.addrHalfReg p u w rn rm)))

/-- `STRH.imm` (44 R252, R250). -/
def execStrhImm (c : Cond) (p u w : Bool) (rn rd : Reg) (immH immL : BitVec 4) (st : State) : Outcome :=
  st.ifPassed c (guarded (checkHalfImm p w rn rd) (st.strh rn rd (st.addrHalfImm p u w rn immH immL)))

/-- `LDRH.reg` (44 R251, R250). -/
def execLdrhReg (c : Cond) (p u w : Bool) (rn rd rm : Reg) (st : State) : Outcome :=
  st.ifPassed c (guarded (checkHalfReg p w rn rd rm) (st.ldrh rn rd (st.addrHalfReg p u w rn rm)))

/-- `LDRH.imm` (44 R251, R250). -/
def execLdrhImm (c : Cond) (p u w : Bool) (rn rd : Reg) (immH immL : BitVec 4) (st : State) : Outcome :=
  st.ifPassed c (guarded (checkHalfImm p w rn rd) (st.ldrh rn rd (st.addrHalfImm p u w rn immH immL)))

/-- `LDRSB.reg` (44 R253, R250). -/
def execLdrsbReg (c : Cond) (p u w : Bool) (rn rd rm : Reg) (st : State) : Outcome :=
  st.ifPassed c (guarded (checkHalfReg p w rn rd rm) (st.ldrsb rn rd (st.addrHalfReg p u w rn rm)))

/-- `LDRSB.imm` (44 R253, R250). -/
def execLdrsbImm (c : Cond) (p u w : Bool) (rn rd : Reg) (immH immL : BitVec 4) (st : State) : Outcome :=
  st.ifPassed c (guarded (checkHalfImm p w rn rd) (st.ldrsb rn rd (st.addrHalfImm p u w rn immH immL)))

/-- `LDRSH.reg` (44 R254, R250). -/
def execLdrshReg (c : Cond) (p u w : Bool) (rn rd rm : Reg) (st : State) : Outcome :=
  st.ifPassed c (guarded (checkHalfReg p w rn rd rm) (st.ldrsh rn rd (st.addrHalfReg p u w rn rm)))

/-- `LDRSH.imm` (44 R254, R250). -/
def execLdrshImm (c : Cond) (p u w : Bool) (rn rd : Reg) (immH immL : BitVec 4) (st : State) : Outcome :=
  st.ifPassed c (guarded (checkHalfImm p w rn rd) (st.ldrsh rn rd (st.addrHalfImm p u w rn immH immL)))

/-- `STR.imm.pre` (44 R243, R240). -/
def execStrImmPre (c : Cond) (u w : Bool) (rn rd : Reg) (imm12 : BitVec 12) (st : State) : Outcome :=
  st.ifPassed c (guarded (checkWordImm w rn) (st.str rn rd (st.addrImm true u w rn imm12)))

/-- `STR.imm.post` (44 R243, R240). -/
def execStrImmPost (c : Cond) (u : Bool) (rn rd : Reg) (imm12 : BitVec 12) (st : State) : Outcome :=
  st.ifPassed c (guarded (checkWordImm true rn) (st.str rn rd (st.addrImm false u false rn imm12)))

/-- `STR.reg.pre` (44 R243, R240). -/
def execStrRegPre (c : Cond) (u w : Bool) (rn rd : Reg) (shamt : BitVec 5) (sh : Shift) (rm : Reg) (st : State) : Outcome :=
  st.ifPassed c (guarded (checkWordReg w false rn rm) (st.str rn rd (st.addrReg true u w rn shamt sh rm)))

/-- `STR.reg.post` (44 R243, R240). -/
def execStrRegPost (c : Cond) (u : Bool) (rn rd : Reg) (shamt : BitVec 5) (sh : Shift) (rm : Reg) (st : State) : Outcome :=
  st.ifPassed c (guarded (checkWordReg true true rn rm) (st.str rn rd (st.addrReg false u false rn shamt sh rm)))

/-- `STRT.imm` (44 R248, R240). -/
def execStrtImm (c : Cond) (u : Bool) (rn rd : Reg) (imm12 : BitVec 12) (st : State) : Outcome :=
  st.ifPassed c (guarded (checkWordImm true rn) (st.str rn rd (st.addrImm false u true rn imm12)))

/-- `STRT.reg` (44 R248, R240). -/
def execStrtReg (c : Cond) (u : Bool) (rn rd : Reg) (shamt : BitVec 5) (sh : Shift) (rm : Reg) (st : State) : Outcome :=
  st.ifPassed c (guarded (checkWordReg true true rn rm) (st.str rn rd (st.addrReg false u true rn shamt sh rm)))

/-- `LDR.imm.pre` (44 R242, R240). -/
def execLdrImmPre (c : Cond) (u w : Bool) (rn rd : Reg) (imm12 : BitVec 12) (st : State) : Outcome :=
  st.ifPassed c (guarded (checkWordImm w rn) (st.ldr rn rd (st.addrImm true u w rn imm12)))

/-- `LDR.imm.post` (44 R242, R240). -/
def execLdrImmPost (c : Cond) (u : Bool) (rn rd : Reg) (imm12 : BitVec 12) (st : State) : Outcome :=
  st.ifPassed c (guarded (checkWordImm true rn) (st.ldr rn rd (st.addrImm false u false rn imm12)))

/-- `LDR.reg.pre` (44 R242, R240). -/
def execLdrRegPre (c : Cond) (u w : Bool) (rn rd : Reg) (shamt : BitVec 5) (sh : Shift) (rm : Reg) (st : State) : Outcome :=
  st.ifPassed c (guarded (checkWordReg w false rn rm) (st.ldr rn rd (st.addrReg true u w rn shamt sh rm)))

/-- `LDR.reg.post` (44 R242, R240). -/
def execLdrRegPost (c : Cond) (u : Bool) (rn rd : Reg) (shamt : BitVec 5) (sh : Shift) (rm : Reg) (st : State) : Outcome :=
  st.ifPassed c (guarded (checkWordReg true true rn rm) (st.ldr rn rd (st.addrReg false u false rn shamt sh rm)))

/-- `LDRT.imm` (44 R248, R240). -/
def execLdrtImm (c : Cond) (u : Bool) (rn rd : Reg) (imm12 : BitVec 12) (st : State) : Outcome :=
  st.ifPassed c (guarded (checkWordImm true rn) (st.ldr rn rd (st.addrImm false u true rn imm12)))

/-- `LDRT.reg` (44 R248, R240). -/
def execLdrtReg (c : Cond) (u : Bool) (rn rd : Reg) (shamt : BitVec 5) (sh : Shift) (rm : Reg) (st : State) : Outcome :=
  st.ifPassed c (guarded (checkWordReg true true rn rm) (st.ldr rn rd (st.addrReg false u true rn shamt sh rm)))

/-- `STRB.imm.pre` (44 R245, R240). -/
def execStrbImmPre (c : Cond) (u w : Bool) (rn rd : Reg) (imm12 : BitVec 12) (st : State) : Outcome :=
  st.ifPassed c (guarded (checkByteImm w rn rd) (st.strb rn rd (st.addrImm true u w rn imm12)))

/-- `STRB.imm.post` (44 R245, R240). -/
def execStrbImmPost (c : Cond) (u : Bool) (rn rd : Reg) (imm12 : BitVec 12) (st : State) : Outcome :=
  st.ifPassed c (guarded (checkByteImm true rn rd) (st.strb rn rd (st.addrImm false u false rn imm12)))

/-- `STRB.reg.pre` (44 R245, R240). -/
def execStrbRegPre (c : Cond) (u w : Bool) (rn rd : Reg) (shamt : BitVec 5) (sh : Shift) (rm : Reg) (st : State) : Outcome :=
  st.ifPassed c (guarded (checkByteReg w false rn rd rm) (st.strb rn rd (st.addrReg true u w rn shamt sh rm)))

/-- `STRB.reg.post` (44 R245, R240). -/
def execStrbRegPost (c : Cond) (u : Bool) (rn rd : Reg) (shamt : BitVec 5) (sh : Shift) (rm : Reg) (st : State) : Outcome :=
  st.ifPassed c (guarded (checkByteReg true true rn rd rm) (st.strb rn rd (st.addrReg false u false rn shamt sh rm)))

/-- `STRBT.imm` (44 R248, R240). -/
def execStrbtImm (c : Cond) (u : Bool) (rn rd : Reg) (imm12 : BitVec 12) (st : State) : Outcome :=
  st.ifPassed c (guarded (checkByteImm true rn rd) (st.strb rn rd (st.addrImm false u true rn imm12)))

/-- `STRBT.reg` (44 R248, R240). -/
def execStrbtReg (c : Cond) (u : Bool) (rn rd : Reg) (shamt : BitVec 5) (sh : Shift) (rm : Reg) (st : State) : Outcome :=
  st.ifPassed c (guarded (checkByteReg true true rn rd rm) (st.strb rn rd (st.addrReg false u true rn shamt sh rm)))

/-- `LDRB.imm.pre` (44 R244, R240). -/
def execLdrbImmPre (c : Cond) (u w : Bool) (rn rd : Reg) (imm12 : BitVec 12) (st : State) : Outcome :=
  st.ifPassed c (guarded (checkByteImm w rn rd) (st.ldrb rn rd (st.addrImm true u w rn imm12)))

/-- `LDRB.imm.post` (44 R244, R240). -/
def execLdrbImmPost (c : Cond) (u : Bool) (rn rd : Reg) (imm12 : BitVec 12) (st : State) : Outcome :=
  st.ifPassed c (guarded (checkByteImm true rn rd) (st.ldrb rn rd (st.addrImm false u false rn imm12)))

/-- `LDRB.reg.pre` (44 R244, R240). -/
def execLdrbRegPre (c : Cond) (u w : Bool) (rn rd : Reg) (shamt : BitVec 5) (sh : Shift) (rm : Reg) (st : State) : Outcome :=
  st.ifPassed c (guarded (checkByteReg w false rn rd rm) (st.ldrb rn rd (st.addrReg true u w rn shamt sh rm)))

/-- `LDRB.reg.post` (44 R244, R240). -/
def execLdrbRegPost (c : Cond) (u : Bool) (rn rd : Reg) (shamt : BitVec 5) (sh : Shift) (rm : Reg) (st : State) : Outcome :=
  st.ifPassed c (guarded (checkByteReg true true rn rd rm) (st.ldrb rn rd (st.addrReg false u false rn shamt sh rm)))

/-- `LDRBT.imm` (44 R248, R240). -/
def execLdrbtImm (c : Cond) (u : Bool) (rn rd : Reg) (imm12 : BitVec 12) (st : State) : Outcome :=
  st.ifPassed c (guarded (checkByteImm true rn rd) (st.ldrb rn rd (st.addrImm false u true rn imm12)))

/-- `LDRBT.reg` (44 R248, R240). -/
def execLdrbtReg (c : Cond) (u : Bool) (rn rd : Reg) (shamt : BitVec 5) (sh : Shift) (rm : Reg) (st : State) : Outcome :=
  st.ifPassed c (guarded (checkByteReg true true rn rd rm) (st.ldrb rn rd (st.addrReg false u true rn shamt sh rm)))

end Sys2Proof.Machine
end

