-- ==== Sys2Proof/Machine/Multiply.lean ====
section
/-! DEFINITION. Wide multiplies (43_arm_multiply). -/

namespace Sys2Proof.Machine

/-! ## Common (43 R230) -/

/-- The end of MUL and MLA: write Rd, and with S the flags. -/
def State.writeMul (st : State) (s : Bool) (rd : Reg) (r : Word) : Outcome :=
  if s then .next ((st.setReg rd r).setMulFlags r) else .next (st.setReg rd r)

/-- The end of a long multiply: write RdLo and RdHi, and with S the flags. -/
def State.writeLong (st : State) (s : Bool) (rdHi rdLo : Reg) (p : BitVec 64) : Outcome :=
  let t := (st.setReg rdLo (p.extractLsb' 0 32)).setReg rdHi (p.extractLsb' 32 32)
  if s then .next (t.setLongFlags p) else .next t

/-- The accumulator `x[RdHi] :: x[RdLo]` (43 R234). -/
def State.longAcc (st : State) (rdHi rdLo : Reg) : BitVec 64 := st.reg rdHi ++ st.reg rdLo

/-- The 64-bit unsigned product (43 R233). -/
def unsignedProduct (a b : Word) : BitVec 64 := a.setWidth 64 * b.setWidth 64

/-- The 64-bit signed product (43 R235). -/
def signedProduct (a b : Word) : BitVec 64 := a.signExtend 64 * b.signExtend 64

/-! ## The meanings -/

/-- `MUL` (43 R231). -/
def execMul (c : Cond) (s : Bool) (rd : Reg) (_sbz : BitVec 4) (rs rm : Reg) (st : State) : Outcome :=
  st.ifPassed c (guarded (checkMul rd rm rs) (st.writeMul s rd (st.reg rm * st.reg rs)))

/-- `MLA` (43 R232). -/
def execMla (c : Cond) (s : Bool) (rd rn rs rm : Reg) (st : State) : Outcome :=
  st.ifPassed c (guarded (checkMla rd rn rm rs) (st.writeMul s rd (st.reg rm * st.reg rs + st.reg rn)))

/-- `UMULL` (43 R233). -/
def execUmull (c : Cond) (s : Bool) (rdHi rdLo rs rm : Reg) (st : State) : Outcome :=
  st.ifPassed c (guarded (checkMull rdHi rdLo rm rs) (st.writeLong s rdHi rdLo (unsignedProduct (st.reg rm) (st.reg rs))))

/-- `UMLAL` (43 R234). -/
def execUmlal (c : Cond) (s : Bool) (rdHi rdLo rs rm : Reg) (st : State) : Outcome :=
  st.ifPassed c (guarded (checkMull rdHi rdLo rm rs) (st.writeLong s rdHi rdLo (unsignedProduct (st.reg rm) (st.reg rs) + st.longAcc rdHi rdLo)))

/-- `SMULL` (43 R235). -/
def execSmull (c : Cond) (s : Bool) (rdHi rdLo rs rm : Reg) (st : State) : Outcome :=
  st.ifPassed c (guarded (checkMull rdHi rdLo rm rs) (st.writeLong s rdHi rdLo (signedProduct (st.reg rm) (st.reg rs))))

/-- `SMLAL` (43 R236). -/
def execSmlal (c : Cond) (s : Bool) (rdHi rdLo rs rm : Reg) (st : State) : Outcome :=
  st.ifPassed c (guarded (checkMull rdHi rdLo rm rs) (st.writeLong s rdHi rdLo (signedProduct (st.reg rm) (st.reg rs) + st.longAcc rdHi rdLo)))

end Sys2Proof.Machine
end

