-- ==== Sys2Proof/Machine/System.lean ====
section
/-! DEFINITION. Wide status transfer, software interrupt, the undefined and the coprocessor formats (46_arm_system).
There is no coprocessor: its five formats raise Undefined-instruction (46 R297 to R302). -/

namespace Sys2Proof.Machine

/-! ## Common (46 R290 to R293) -/

/-- `wmask` of a field mask: only `f` (bit 3) and `c` (bit 0) select implemented bits (46 R291). -/
def fieldMask (fmask : BitVec 4) : Word :=
  (if fmask.getLsbD 3 then 0xF0000000 else 0) ||| (if fmask.getLsbD 0 then 0x000000FF else 0)

/-- Replace the masked bits of a status word. -/
def mergeStatus (old : Saved) (mask v : Word) : Saved := Saved.ofWord ((old.toWord &&& ~~~mask) ||| (v &&& mask))

/-- The bits MSR writes to CPSR: the flags alone in User mode (46 R292). -/
def State.cpsrMask (st : State) (fmask : BitVec 4) : Word :=
  if st.cpsr.mode = .user then fieldMask fmask &&& 0xF0000000 else fieldMask fmask

/-- MSR to CPSR (46 R292, R293). -/
def State.writeCpsr (st : State) (fmask : BitVec 4) (v : Word) : Outcome :=
  let new := mergeStatus st.cpsr.toSaved (st.cpsrMask fmask) v
  if new.t ≠ st.cpsr.t then .refused .msrChangesWidth
  else
    match new.toStatus with
    | some p => .next (st.loadStatus p)
    | none => .refused .illegalMode

/-- MSR to SPSR (46 R292). -/
def State.writeSpsr (st : State) (fmask : BitVec 4) (v : Word) : Outcome :=
  if st.cpsr.mode.hasSpsr then .next { st with spsr := mergeStatus st.spsr (fieldMask fmask) v } else .refused .noSpsr

/-- MRS from SPSR (46 R290). -/
def State.readSpsr (st : State) (rd : Reg) : Outcome :=
  if st.cpsr.mode.hasSpsr then .next (st.setReg rd st.spsr.toWord) else .refused .noSpsr

/-- The rotated immediate of MSR; its carry is not used (46 R292). -/
def msrImm (rot : BitVec 4) (imm8 : BitVec 8) : Word := (immOperand rot imm8 false).value

/-! ## The meanings -/

/-- `MRS.cpsr` (46 R290). -/
def execMrsCpsr (c : Cond) (rd : Reg) (st : State) : Outcome :=
  st.ifPassed c (guarded (checkMrs rd) (.next (st.setReg rd st.cpsr.toWord)))

/-- `MRS.spsr` (46 R290). -/
def execMrsSpsr (c : Cond) (rd : Reg) (st : State) : Outcome :=
  st.ifPassed c (guarded (checkMrs rd) (st.readSpsr rd))

/-- `MSR.reg.cpsr` (46 R292). -/
def execMsrRegCpsr (c : Cond) (fmask : BitVec 4) (rm : Reg) (st : State) : Outcome :=
  st.ifPassed c (guarded (checkMsrReg rm) (st.writeCpsr fmask (st.reg rm)))

/-- `MSR.reg.spsr` (46 R292). -/
def execMsrRegSpsr (c : Cond) (fmask : BitVec 4) (rm : Reg) (st : State) : Outcome :=
  st.ifPassed c (guarded (checkMsrReg rm) (st.writeSpsr fmask (st.reg rm)))

/-- `MSR.imm.cpsr` (46 R292). -/
def execMsrImmCpsr (c : Cond) (fmask rot : BitVec 4) (imm8 : BitVec 8) (st : State) : Outcome :=
  st.ifPassed c (st.writeCpsr fmask (msrImm rot imm8))

/-- `MSR.imm.spsr` (46 R292). -/
def execMsrImmSpsr (c : Cond) (fmask rot : BitVec 4) (imm8 : BitVec 8) (st : State) : Outcome :=
  st.ifPassed c (st.writeSpsr fmask (msrImm rot imm8))

/-- `SWI` (46 R294). -/
def execSwi (c : Cond) (_comment : BitVec 24) (st : State) : Outcome :=
  st.ifPassed c (.next (st.enter .swi))

/-- `UND` (46 R296). -/
def execUnd (c : Cond) (_xHi : BitVec 20) (_xLo : BitVec 4) (st : State) : Outcome :=
  st.ifPassed c (.next (st.enter .undefined))

/-- `CDP` (46 R297). -/
def execCdp (c : Cond) (_op1 _crn _crd _cp : BitVec 4) (_op2 : BitVec 3) (_crm : BitVec 4) (st : State) : Outcome :=
  st.ifPassed c (.next (st.enter .undefined))

/-- `LDC` (46 R298). -/
def execLdc (c : Cond) (_p _u _n _w : Bool) (_rn : Reg) (_crd _cp : BitVec 4) (_offset8 : BitVec 8) (st : State) : Outcome :=
  st.ifPassed c (.next (st.enter .undefined))

/-- `STC` (46 R299). -/
def execStc (c : Cond) (_p _u _n _w : Bool) (_rn : Reg) (_crd _cp : BitVec 4) (_offset8 : BitVec 8) (st : State) : Outcome :=
  st.ifPassed c (.next (st.enter .undefined))

/-- `MCR` (46 R300). -/
def execMcr (c : Cond) (_op1 : BitVec 3) (_crn : BitVec 4) (_rd : Reg) (_cp : BitVec 4) (_op2 : BitVec 3) (_crm : BitVec 4) (st : State) : Outcome :=
  st.ifPassed c (.next (st.enter .undefined))

/-- `MRC` (46 R301). -/
def execMrc (c : Cond) (_op1 : BitVec 3) (_crn : BitVec 4) (_rd : Reg) (_cp : BitVec 4) (_op2 : BitVec 3) (_crm : BitVec 4) (st : State) : Outcome :=
  st.ifPassed c (.next (st.enter .undefined))

end Sys2Proof.Machine
end

