-- ==== Sys2Proof/Machine/ThumbAlu.lean ====
section
/-! DEFINITION. Narrow arithmetic, logic and address generation (47_thumb_alu). -/

namespace Sys2Proof.Machine

/-! ## Common (47 R310) -/

/-- Write a low register and the flags. -/
def State.aluLo (st : State) (rd : LoReg) (x : Alu) : State := (st.setReg (low rd) x.result).setAluFlags x

/-- A shifted value with the flags of a logical operation: C is the shifter carry, V is kept. -/
def State.shiftedAlu (st : State) (x : Shifted) : Alu := logical x.value x.carry st.cpsr

/-- A result with N and Z only: C and V are kept. -/
def State.keptAlu (st : State) (r : Word) : Alu := logical r st.cpsr.c st.cpsr

/-- A 4-bit register number from its high bit and its low three (47 section 6). -/
def high (h : Bool) (r : LoReg) : Reg := BitVec.ofBool h ++ r

/-- Write a register of format T5; r15 is a branch with bit 0 dropped (47 R340, R342). -/
def State.writeHi (st : State) (d : Reg) (r : Word) : State := if d = 15 then st.branchTo (align2 r) else st.setReg d r

/-! ## The meanings -/

/-- `T.LSL.imm` (47 R311). -/
def execTLslImm (imm5 : BitVec 5) (rs rd : LoReg) (st : State) : Outcome :=
  .next (st.aluLo rd (st.shiftedAlu (shiftImm .lsl imm5 (st.reg (low rs)) st.cpsr.c)))

/-- `T.LSR.imm` (47 R312). -/
def execTLsrImm (imm5 : BitVec 5) (rs rd : LoReg) (st : State) : Outcome :=
  .next (st.aluLo rd (st.shiftedAlu (shiftImm .lsr imm5 (st.reg (low rs)) st.cpsr.c)))

/-- `T.ASR.imm` (47 R313). -/
def execTAsrImm (imm5 : BitVec 5) (rs rd : LoReg) (st : State) : Outcome :=
  .next (st.aluLo rd (st.shiftedAlu (shiftImm .asr imm5 (st.reg (low rs)) st.cpsr.c)))

/-- `T.ADD.reg` (47 R315). -/
def execTAddReg (rn rs rd : LoReg) (st : State) : Outcome :=
  .next (st.aluLo rd (addWithCarry (st.reg (low rs)) (st.reg (low rn)) false))

/-- `T.SUB.reg` (47 R316). -/
def execTSubReg (rn rs rd : LoReg) (st : State) : Outcome :=
  .next (st.aluLo rd (addWithCarry (st.reg (low rs)) (~~~st.reg (low rn)) true))

/-- `T.ADD.imm3` (47 R317). -/
def execTAddImm3 (imm3 : BitVec 3) (rs rd : LoReg) (st : State) : Outcome :=
  .next (st.aluLo rd (addWithCarry (st.reg (low rs)) (imm3.setWidth 32) false))

/-- `T.SUB.imm3` (47 R318). -/
def execTSubImm3 (imm3 : BitVec 3) (rs rd : LoReg) (st : State) : Outcome :=
  .next (st.aluLo rd (addWithCarry (st.reg (low rs)) (~~~imm3.setWidth 32) true))

/-- `T.MOV.imm8` (47 R320). -/
def execTMovImm8 (rd : LoReg) (imm8 : BitVec 8) (st : State) : Outcome :=
  .next (st.aluLo rd (st.keptAlu (imm8.setWidth 32)))

/-- `T.CMP.imm8` (47 R321). -/
def execTCmpImm8 (rd : LoReg) (imm8 : BitVec 8) (st : State) : Outcome :=
  .next (st.setAluFlags (addWithCarry (st.reg (low rd)) (~~~imm8.setWidth 32) true))

/-- `T.ADD.imm8` (47 R322). -/
def execTAddImm8 (rd : LoReg) (imm8 : BitVec 8) (st : State) : Outcome :=
  .next (st.aluLo rd (addWithCarry (st.reg (low rd)) (imm8.setWidth 32) false))

/-- `T.SUB.imm8` (47 R323). -/
def execTSubImm8 (rd : LoReg) (imm8 : BitVec 8) (st : State) : Outcome :=
  .next (st.aluLo rd (addWithCarry (st.reg (low rd)) (~~~imm8.setWidth 32) true))

/-- `T.AND` (47 R324). -/
def execTAnd (rs rd : LoReg) (st : State) : Outcome :=
  .next (st.aluLo rd (st.keptAlu (st.reg (low rd) &&& st.reg (low rs))))

/-- `T.EOR` (47 R325). -/
def execTEor (rs rd : LoReg) (st : State) : Outcome :=
  .next (st.aluLo rd (st.keptAlu (st.reg (low rd) ^^^ st.reg (low rs))))

/-- `T.LSL.reg` (47 R326). -/
def execTLslReg (rs rd : LoReg) (st : State) : Outcome :=
  .next (st.aluLo rd (st.shiftedAlu (shiftReg .lsl ((st.reg (low rs)).setWidth 8) (st.reg (low rd)) st.cpsr.c)))

/-- `T.LSR.reg` (47 R327). -/
def execTLsrReg (rs rd : LoReg) (st : State) : Outcome :=
  .next (st.aluLo rd (st.shiftedAlu (shiftReg .lsr ((st.reg (low rs)).setWidth 8) (st.reg (low rd)) st.cpsr.c)))

/-- `T.ASR.reg` (47 R328). -/
def execTAsrReg (rs rd : LoReg) (st : State) : Outcome :=
  .next (st.aluLo rd (st.shiftedAlu (shiftReg .asr ((st.reg (low rs)).setWidth 8) (st.reg (low rd)) st.cpsr.c)))

/-- `T.ADC` (47 R329). -/
def execTAdc (rs rd : LoReg) (st : State) : Outcome :=
  .next (st.aluLo rd (addWithCarry (st.reg (low rd)) (st.reg (low rs)) st.cpsr.c))

/-- `T.SBC` (47 R330). -/
def execTSbc (rs rd : LoReg) (st : State) : Outcome :=
  .next (st.aluLo rd (addWithCarry (st.reg (low rd)) (~~~st.reg (low rs)) st.cpsr.c))

/-- `T.ROR` (47 R331). -/
def execTRor (rs rd : LoReg) (st : State) : Outcome :=
  .next (st.aluLo rd (st.shiftedAlu (shiftReg .ror ((st.reg (low rs)).setWidth 8) (st.reg (low rd)) st.cpsr.c)))

/-- `T.TST` (47 R332). -/
def execTTst (rs rd : LoReg) (st : State) : Outcome :=
  .next (st.setAluFlags (st.keptAlu (st.reg (low rd) &&& st.reg (low rs))))

/-- `T.NEG` (47 R333). -/
def execTNeg (rs rd : LoReg) (st : State) : Outcome :=
  .next (st.aluLo rd (addWithCarry 0 (~~~st.reg (low rs)) true))

/-- `T.CMP.reg` (47 R334). -/
def execTCmpReg (rs rd : LoReg) (st : State) : Outcome :=
  .next (st.setAluFlags (addWithCarry (st.reg (low rd)) (~~~st.reg (low rs)) true))

/-- `T.CMN` (47 R335). -/
def execTCmn (rs rd : LoReg) (st : State) : Outcome :=
  .next (st.setAluFlags (addWithCarry (st.reg (low rd)) (st.reg (low rs)) false))

/-- `T.ORR` (47 R336). -/
def execTOrr (rs rd : LoReg) (st : State) : Outcome :=
  .next (st.aluLo rd (st.keptAlu (st.reg (low rd) ||| st.reg (low rs))))

/-- `T.MUL` (47 R337). -/
def execTMul (rs rd : LoReg) (st : State) : Outcome :=
  .next ((st.setReg (low rd) (st.reg (low rd) * st.reg (low rs))).setMulFlags (st.reg (low rd) * st.reg (low rs)))

/-- `T.BIC` (47 R338). -/
def execTBic (rs rd : LoReg) (st : State) : Outcome :=
  .next (st.aluLo rd (st.keptAlu (st.reg (low rd) &&& ~~~st.reg (low rs))))

/-- `T.MVN` (47 R339). -/
def execTMvn (rs rd : LoReg) (st : State) : Outcome :=
  .next (st.aluLo rd (st.keptAlu (~~~st.reg (low rs))))

/-- `T.ADD.hi` (47 R340). -/
def execTAddHi (h1 h2 : Bool) (rs rd : LoReg) (st : State) : Outcome :=
  .next (st.writeHi (high h1 rd) (st.reg (high h1 rd) + st.reg (high h2 rs)))

/-- `T.CMP.hi` (47 R341). -/
def execTCmpHi (h1 h2 : Bool) (rs rd : LoReg) (st : State) : Outcome :=
  .next (st.setAluFlags (addWithCarry (st.reg (high h1 rd)) (~~~st.reg (high h2 rs)) true))

/-- `T.MOV.hi` (47 R342). -/
def execTMovHi (h1 h2 : Bool) (rs rd : LoReg) (st : State) : Outcome :=
  .next (st.writeHi (high h1 rd) (st.reg (high h2 rs)))

/-- `T.ADD.pc` (47 R350). -/
def execTAddPc (rd : LoReg) (imm8 : BitVec 8) (st : State) : Outcome :=
  .next (st.setReg (low rd) (st.pcRelative imm8))

/-- `T.ADD.sp` (47 R351). -/
def execTAddSp (rd : LoReg) (imm8 : BitVec 8) (st : State) : Outcome :=
  .next (st.setReg (low rd) (st.reg 13 + scaled4 imm8))

/-- `T.ADD.spimm` (47 R352). -/
def execTAddSpimm (imm7 : BitVec 7) (st : State) : Outcome :=
  .next (st.setReg 13 (st.reg 13 + scaled4 imm7))

/-- `T.SUB.spimm` (47 R353). -/
def execTSubSpimm (imm7 : BitVec 7) (st : State) : Outcome :=
  .next (st.setReg 13 (st.reg 13 - scaled4 imm7))

end Sys2Proof.Machine
end

