-- ==== Sys2Proof/Machine/ThumbBranch.lean ====
section
/-! DEFINITION. Narrow branches and the software interrupt (47 R343, 48_thumb_mem_branch section 3). -/

namespace Sys2Proof.Machine

/-- The conditional branch of format T16 (48 R405). -/
def State.branchIf (st : State) (c : Cond) (imm8 : BitVec 8) : State :=
  if Cond.holds c st.cpsr then st.branchTo (st.reg 15 + halfOffset imm8) else st

/-- `T.BX` (47 R343). -/
def execTBx (h2 : Bool) (rs : LoReg) (_sbz : BitVec 3) (st : State) : Outcome :=
  .next (st.exchange (st.reg (high h2 rs)))

/-- `T.BEQ` (48 R405). -/
def execTBeq (imm8 : BitVec 8) (st : State) : Outcome :=
  .next (st.branchIf .eq imm8)

/-- `T.BNE` (48 R405). -/
def execTBne (imm8 : BitVec 8) (st : State) : Outcome :=
  .next (st.branchIf .ne imm8)

/-- `T.BCS` (48 R405). -/
def execTBcs (imm8 : BitVec 8) (st : State) : Outcome :=
  .next (st.branchIf .cs imm8)

/-- `T.BCC` (48 R405). -/
def execTBcc (imm8 : BitVec 8) (st : State) : Outcome :=
  .next (st.branchIf .cc imm8)

/-- `T.BMI` (48 R405). -/
def execTBmi (imm8 : BitVec 8) (st : State) : Outcome :=
  .next (st.branchIf .mi imm8)

/-- `T.BPL` (48 R405). -/
def execTBpl (imm8 : BitVec 8) (st : State) : Outcome :=
  .next (st.branchIf .pl imm8)

/-- `T.BVS` (48 R405). -/
def execTBvs (imm8 : BitVec 8) (st : State) : Outcome :=
  .next (st.branchIf .vs imm8)

/-- `T.BVC` (48 R405). -/
def execTBvc (imm8 : BitVec 8) (st : State) : Outcome :=
  .next (st.branchIf .vc imm8)

/-- `T.BHI` (48 R405). -/
def execTBhi (imm8 : BitVec 8) (st : State) : Outcome :=
  .next (st.branchIf .hi imm8)

/-- `T.BLS` (48 R405). -/
def execTBls (imm8 : BitVec 8) (st : State) : Outcome :=
  .next (st.branchIf .ls imm8)

/-- `T.BGE` (48 R405). -/
def execTBge (imm8 : BitVec 8) (st : State) : Outcome :=
  .next (st.branchIf .ge imm8)

/-- `T.BLT` (48 R405). -/
def execTBlt (imm8 : BitVec 8) (st : State) : Outcome :=
  .next (st.branchIf .lt imm8)

/-- `T.BGT` (48 R405). -/
def execTBgt (imm8 : BitVec 8) (st : State) : Outcome :=
  .next (st.branchIf .gt imm8)

/-- `T.BLE` (48 R405). -/
def execTBle (imm8 : BitVec 8) (st : State) : Outcome :=
  .next (st.branchIf .le imm8)

/-- `T.SWI` (48 R406). -/
def execTSwi (_comment : BitVec 8) (st : State) : Outcome :=
  .next (st.enter .swi)

/-- `T.B` (48 R407). -/
def execTB (imm11 : BitVec 11) (st : State) : Outcome :=
  .next (st.branchTo (st.reg 15 + halfOffset imm11))

/-- `T.BL.hi` (48 R410). -/
def execTBlHi (imm11 : BitVec 11) (st : State) : Outcome :=
  .next (st.setReg 14 (st.reg 15 + linkHigh imm11))

/-- `T.BL.lo` (48 R411). -/
def execTBlLo (imm11 : BitVec 11) (st : State) : Outcome :=
  .next ((st.branchTo (st.reg 14 + linkLow imm11)).setReg 14 ((st.reg 15 - 2) ||| 1))

end Sys2Proof.Machine
end

