-- ==== Sys2Proof/Machine/ThumbMem.lean ====
section
/-! DEFINITION. Narrow loads, stores, stack and block transfers (48_thumb_mem_branch sections 1 and 2). -/

namespace Sys2Proof.Machine

/-! ## Common (48 R371, R392) -/

/-- The registers of PUSH (48 R390). -/
def pushList (r : Bool) (rlist : BitVec 8) : BitVec 16 := narrowList (if r then 0x4000 else 0) rlist

/-- The registers of POP (48 R391). -/
def popList (r : Bool) (rlist : BitVec 8) : BitVec 16 := narrowList (if r then 0x8000 else 0) rlist

/-- `x[Rb] + x[Ro]` (48 R371). -/
def State.addrLo (st : State) (rb ro : LoReg) : Word := st.reg (low rb) + st.reg (low ro)

/-- POP: the loads, then SP, then the PC with bit 0 dropped (48 R391). -/
def State.pop (st : State) (rlist : BitVec 16) : Outcome :=
  (st.ldmLoads State.setReg false true 13 rlist).finish fun t target =>
    .next ((t.setReg 13 (st.reg 13 + listBytes rlist)).blockPc rlist (align2 target))

/-! ## The meanings -/

/-- `T.LDR.pc` (48 R370). -/
def execTLdrPc (rd : LoReg) (imm8 : BitVec 8) (st : State) : Outcome :=
  st.loadLo rd (st.load32 (st.pcRelative imm8))

/-- `T.STR.reg` (48 R373). -/
def execTStrReg (ro rb rd : LoReg) (st : State) : Outcome :=
  st.storeLo (st.storeWord (st.addrLo rb ro) (st.reg (low rd)))

/-- `T.STRB.reg` (48 R374). -/
def execTStrbReg (ro rb rd : LoReg) (st : State) : Outcome :=
  st.storeLo (st.storeByte (st.addrLo rb ro) (st.reg (low rd)))

/-- `T.LDR.reg` (48 R375). -/
def execTLdrReg (ro rb rd : LoReg) (st : State) : Outcome :=
  st.loadLo rd (st.loadWord (st.addrLo rb ro))

/-- `T.LDRB.reg` (48 R376). -/
def execTLdrbReg (ro rb rd : LoReg) (st : State) : Outcome :=
  st.loadLo rd (st.loadByte (st.addrLo rb ro))

/-- `T.STRH.reg` (48 R377). -/
def execTStrhReg (ro rb rd : LoReg) (st : State) : Outcome :=
  st.storeLo (st.storeHalf (st.addrLo rb ro) (st.reg (low rd)))

/-- `T.LDSB.reg` (48 R378). -/
def execTLdsbReg (ro rb rd : LoReg) (st : State) : Outcome :=
  st.loadLo rd (st.loadSignedByte (st.addrLo rb ro))

/-- `T.LDRH.reg` (48 R379). -/
def execTLdrhReg (ro rb rd : LoReg) (st : State) : Outcome :=
  st.halfwordGuard (st.addrLo rb ro) (st.loadLo rd (st.loadHalf (st.addrLo rb ro)))

/-- `T.LDSH.reg` (48 R380). -/
def execTLdshReg (ro rb rd : LoReg) (st : State) : Outcome :=
  st.halfwordGuard (st.addrLo rb ro) (st.loadLo rd (st.loadSignedHalf (st.addrLo rb ro)))

/-- `T.STR.imm` (48 R381). -/
def execTStrImm (imm5 : BitVec 5) (rb rd : LoReg) (st : State) : Outcome :=
  st.storeLo (st.storeWord (st.reg (low rb) + scaled4 imm5) (st.reg (low rd)))

/-- `T.LDR.imm` (48 R382). -/
def execTLdrImm (imm5 : BitVec 5) (rb rd : LoReg) (st : State) : Outcome :=
  st.loadLo rd (st.loadWord (st.reg (low rb) + scaled4 imm5))

/-- `T.STRB.imm` (48 R383). -/
def execTStrbImm (imm5 : BitVec 5) (rb rd : LoReg) (st : State) : Outcome :=
  st.storeLo (st.storeByte (st.reg (low rb) + imm5.setWidth 32) (st.reg (low rd)))

/-- `T.LDRB.imm` (48 R384). -/
def execTLdrbImm (imm5 : BitVec 5) (rb rd : LoReg) (st : State) : Outcome :=
  st.loadLo rd (st.loadByte (st.reg (low rb) + imm5.setWidth 32))

/-- `T.STRH.imm` (48 R385). -/
def execTStrhImm (imm5 : BitVec 5) (rb rd : LoReg) (st : State) : Outcome :=
  st.storeLo (st.storeHalf (st.reg (low rb) + scaled2 imm5) (st.reg (low rd)))

/-- `T.LDRH.imm` (48 R386). -/
def execTLdrhImm (imm5 : BitVec 5) (rb rd : LoReg) (st : State) : Outcome :=
  st.halfwordGuard (st.reg (low rb) + scaled2 imm5) (st.loadLo rd (st.loadHalf (st.reg (low rb) + scaled2 imm5)))

/-- `T.STR.sp` (48 R387). -/
def execTStrSp (rd : LoReg) (imm8 : BitVec 8) (st : State) : Outcome :=
  st.storeLo (st.storeWord (st.reg 13 + scaled4 imm8) (st.reg (low rd)))

/-- `T.LDR.sp` (48 R388). -/
def execTLdrSp (rd : LoReg) (imm8 : BitVec 8) (st : State) : Outcome :=
  st.loadLo rd (st.loadWord (st.reg 13 + scaled4 imm8))

/-- `T.PUSH` (48 R390). -/
def execTPush (r : Bool) (rlist : BitVec 8) (st : State) : Outcome :=
  guarded (checkStack r rlist) (st.storeMultiple true false true 13 (pushList r rlist))

/-- `T.POP` (48 R391). -/
def execTPop (r : Bool) (rlist : BitVec 8) (st : State) : Outcome :=
  guarded (checkStack r rlist) (st.pop (popList r rlist))

/-- `T.STMIA` (48 R393). -/
def execTStmia (rb : LoReg) (rlist : BitVec 8) (st : State) : Outcome :=
  guarded (checkNarrowBlock rlist) (st.storeMultiple false true true (low rb) (narrowList 0 rlist))

/-- `T.LDMIA` (48 R394). -/
def execTLdmia (rb : LoReg) (rlist : BitVec 8) (st : State) : Outcome :=
  guarded (checkNarrowBlock rlist) (st.loadMultiple false true true (low rb) (narrowList 0 rlist))

end Sys2Proof.Machine
end

