-- ==== Sys2Proof/Machine/Dispatch.lean ====
section
/-! DEFINITION. One arm per instruction, in the order of spec/opcode_table.json, each a call of its meaning. -/

namespace Sys2Proof.Machine

/-- What an instruction does to the state, the PC's advance aside (40 R156). -/
def exec (i : Instr) (st : State) : Host.Outcome State Fault Refusal :=
  match i with
  | .andImm c s rn rd rot imm8 => Sys2Proof.Machine.execAndImm c s rn rd rot imm8 st
  | .andRegIs c s rn rd shamt sh rm => Sys2Proof.Machine.execAndRegIs c s rn rd shamt sh rm st
  | .andRegRs c s rn rd rs sh rm => Sys2Proof.Machine.execAndRegRs c s rn rd rs sh rm st
  | .eorImm c s rn rd rot imm8 => Sys2Proof.Machine.execEorImm c s rn rd rot imm8 st
  | .eorRegIs c s rn rd shamt sh rm => Sys2Proof.Machine.execEorRegIs c s rn rd shamt sh rm st
  | .eorRegRs c s rn rd rs sh rm => Sys2Proof.Machine.execEorRegRs c s rn rd rs sh rm st
  | .subImm c s rn rd rot imm8 => Sys2Proof.Machine.execSubImm c s rn rd rot imm8 st
  | .subRegIs c s rn rd shamt sh rm => Sys2Proof.Machine.execSubRegIs c s rn rd shamt sh rm st
  | .subRegRs c s rn rd rs sh rm => Sys2Proof.Machine.execSubRegRs c s rn rd rs sh rm st
  | .rsbImm c s rn rd rot imm8 => Sys2Proof.Machine.execRsbImm c s rn rd rot imm8 st
  | .rsbRegIs c s rn rd shamt sh rm => Sys2Proof.Machine.execRsbRegIs c s rn rd shamt sh rm st
  | .rsbRegRs c s rn rd rs sh rm => Sys2Proof.Machine.execRsbRegRs c s rn rd rs sh rm st
  | .addImm c s rn rd rot imm8 => Sys2Proof.Machine.execAddImm c s rn rd rot imm8 st
  | .addRegIs c s rn rd shamt sh rm => Sys2Proof.Machine.execAddRegIs c s rn rd shamt sh rm st
  | .addRegRs c s rn rd rs sh rm => Sys2Proof.Machine.execAddRegRs c s rn rd rs sh rm st
  | .adcImm c s rn rd rot imm8 => Sys2Proof.Machine.execAdcImm c s rn rd rot imm8 st
  | .adcRegIs c s rn rd shamt sh rm => Sys2Proof.Machine.execAdcRegIs c s rn rd shamt sh rm st
  | .adcRegRs c s rn rd rs sh rm => Sys2Proof.Machine.execAdcRegRs c s rn rd rs sh rm st
  | .sbcImm c s rn rd rot imm8 => Sys2Proof.Machine.execSbcImm c s rn rd rot imm8 st
  | .sbcRegIs c s rn rd shamt sh rm => Sys2Proof.Machine.execSbcRegIs c s rn rd shamt sh rm st
  | .sbcRegRs c s rn rd rs sh rm => Sys2Proof.Machine.execSbcRegRs c s rn rd rs sh rm st
  | .rscImm c s rn rd rot imm8 => Sys2Proof.Machine.execRscImm c s rn rd rot imm8 st
  | .rscRegIs c s rn rd shamt sh rm => Sys2Proof.Machine.execRscRegIs c s rn rd shamt sh rm st
  | .rscRegRs c s rn rd rs sh rm => Sys2Proof.Machine.execRscRegRs c s rn rd rs sh rm st
  | .tstImm c rn sbz rot imm8 => Sys2Proof.Machine.execTstImm c rn sbz rot imm8 st
  | .tstRegIs c rn sbz shamt sh rm => Sys2Proof.Machine.execTstRegIs c rn sbz shamt sh rm st
  | .tstRegRs c rn sbz rs sh rm => Sys2Proof.Machine.execTstRegRs c rn sbz rs sh rm st
  | .teqImm c rn sbz rot imm8 => Sys2Proof.Machine.execTeqImm c rn sbz rot imm8 st
  | .teqRegIs c rn sbz shamt sh rm => Sys2Proof.Machine.execTeqRegIs c rn sbz shamt sh rm st
  | .teqRegRs c rn sbz rs sh rm => Sys2Proof.Machine.execTeqRegRs c rn sbz rs sh rm st
  | .cmpImm c rn sbz rot imm8 => Sys2Proof.Machine.execCmpImm c rn sbz rot imm8 st
  | .cmpRegIs c rn sbz shamt sh rm => Sys2Proof.Machine.execCmpRegIs c rn sbz shamt sh rm st
  | .cmpRegRs c rn sbz rs sh rm => Sys2Proof.Machine.execCmpRegRs c rn sbz rs sh rm st
  | .cmnImm c rn sbz rot imm8 => Sys2Proof.Machine.execCmnImm c rn sbz rot imm8 st
  | .cmnRegIs c rn sbz shamt sh rm => Sys2Proof.Machine.execCmnRegIs c rn sbz shamt sh rm st
  | .cmnRegRs c rn sbz rs sh rm => Sys2Proof.Machine.execCmnRegRs c rn sbz rs sh rm st
  | .orrImm c s rn rd rot imm8 => Sys2Proof.Machine.execOrrImm c s rn rd rot imm8 st
  | .orrRegIs c s rn rd shamt sh rm => Sys2Proof.Machine.execOrrRegIs c s rn rd shamt sh rm st
  | .orrRegRs c s rn rd rs sh rm => Sys2Proof.Machine.execOrrRegRs c s rn rd rs sh rm st
  | .movImm c s sbz rd rot imm8 => Sys2Proof.Machine.execMovImm c s sbz rd rot imm8 st
  | .movRegIs c s sbz rd shamt sh rm => Sys2Proof.Machine.execMovRegIs c s sbz rd shamt sh rm st
  | .movRegRs c s sbz rd rs sh rm => Sys2Proof.Machine.execMovRegRs c s sbz rd rs sh rm st
  | .bicImm c s rn rd rot imm8 => Sys2Proof.Machine.execBicImm c s rn rd rot imm8 st
  | .bicRegIs c s rn rd shamt sh rm => Sys2Proof.Machine.execBicRegIs c s rn rd shamt sh rm st
  | .bicRegRs c s rn rd rs sh rm => Sys2Proof.Machine.execBicRegRs c s rn rd rs sh rm st
  | .mvnImm c s sbz rd rot imm8 => Sys2Proof.Machine.execMvnImm c s sbz rd rot imm8 st
  | .mvnRegIs c s sbz rd shamt sh rm => Sys2Proof.Machine.execMvnRegIs c s sbz rd shamt sh rm st
  | .mvnRegRs c s sbz rd rs sh rm => Sys2Proof.Machine.execMvnRegRs c s sbz rd rs sh rm st
  | .mrsCpsr c rd => Sys2Proof.Machine.execMrsCpsr c rd st
  | .mrsSpsr c rd => Sys2Proof.Machine.execMrsSpsr c rd st
  | .msrRegCpsr c fmask rm => Sys2Proof.Machine.execMsrRegCpsr c fmask rm st
  | .msrRegSpsr c fmask rm => Sys2Proof.Machine.execMsrRegSpsr c fmask rm st
  | .msrImmCpsr c fmask rot imm8 => Sys2Proof.Machine.execMsrImmCpsr c fmask rot imm8 st
  | .msrImmSpsr c fmask rot imm8 => Sys2Proof.Machine.execMsrImmSpsr c fmask rot imm8 st
  | .mul c s rd sbz rs rm => Sys2Proof.Machine.execMul c s rd sbz rs rm st
  | .mla c s rd rn rs rm => Sys2Proof.Machine.execMla c s rd rn rs rm st
  | .umull c s rdHi rdLo rs rm => Sys2Proof.Machine.execUmull c s rdHi rdLo rs rm st
  | .umlal c s rdHi rdLo rs rm => Sys2Proof.Machine.execUmlal c s rdHi rdLo rs rm st
  | .smull c s rdHi rdLo rs rm => Sys2Proof.Machine.execSmull c s rdHi rdLo rs rm st
  | .smlal c s rdHi rdLo rs rm => Sys2Proof.Machine.execSmlal c s rdHi rdLo rs rm st
  | .swp c rn rd rm => Sys2Proof.Machine.execSwp c rn rd rm st
  | .swpb c rn rd rm => Sys2Proof.Machine.execSwpb c rn rd rm st
  | .bx c rm => Sys2Proof.Machine.execBx c rm st
  | .strhReg c p u w rn rd rm => Sys2Proof.Machine.execStrhReg c p u w rn rd rm st
  | .strhImm c p u w rn rd immH immL => Sys2Proof.Machine.execStrhImm c p u w rn rd immH immL st
  | .ldrhReg c p u w rn rd rm => Sys2Proof.Machine.execLdrhReg c p u w rn rd rm st
  | .ldrhImm c p u w rn rd immH immL => Sys2Proof.Machine.execLdrhImm c p u w rn rd immH immL st
  | .ldrsbReg c p u w rn rd rm => Sys2Proof.Machine.execLdrsbReg c p u w rn rd rm st
  | .ldrsbImm c p u w rn rd immH immL => Sys2Proof.Machine.execLdrsbImm c p u w rn rd immH immL st
  | .ldrshReg c p u w rn rd rm => Sys2Proof.Machine.execLdrshReg c p u w rn rd rm st
  | .ldrshImm c p u w rn rd immH immL => Sys2Proof.Machine.execLdrshImm c p u w rn rd immH immL st
  | .strImmPre c u w rn rd imm12 => Sys2Proof.Machine.execStrImmPre c u w rn rd imm12 st
  | .strImmPost c u rn rd imm12 => Sys2Proof.Machine.execStrImmPost c u rn rd imm12 st
  | .strRegPre c u w rn rd shamt sh rm => Sys2Proof.Machine.execStrRegPre c u w rn rd shamt sh rm st
  | .strRegPost c u rn rd shamt sh rm => Sys2Proof.Machine.execStrRegPost c u rn rd shamt sh rm st
  | .strtImm c u rn rd imm12 => Sys2Proof.Machine.execStrtImm c u rn rd imm12 st
  | .strtReg c u rn rd shamt sh rm => Sys2Proof.Machine.execStrtReg c u rn rd shamt sh rm st
  | .ldrImmPre c u w rn rd imm12 => Sys2Proof.Machine.execLdrImmPre c u w rn rd imm12 st
  | .ldrImmPost c u rn rd imm12 => Sys2Proof.Machine.execLdrImmPost c u rn rd imm12 st
  | .ldrRegPre c u w rn rd shamt sh rm => Sys2Proof.Machine.execLdrRegPre c u w rn rd shamt sh rm st
  | .ldrRegPost c u rn rd shamt sh rm => Sys2Proof.Machine.execLdrRegPost c u rn rd shamt sh rm st
  | .ldrtImm c u rn rd imm12 => Sys2Proof.Machine.execLdrtImm c u rn rd imm12 st
  | .ldrtReg c u rn rd shamt sh rm => Sys2Proof.Machine.execLdrtReg c u rn rd shamt sh rm st
  | .strbImmPre c u w rn rd imm12 => Sys2Proof.Machine.execStrbImmPre c u w rn rd imm12 st
  | .strbImmPost c u rn rd imm12 => Sys2Proof.Machine.execStrbImmPost c u rn rd imm12 st
  | .strbRegPre c u w rn rd shamt sh rm => Sys2Proof.Machine.execStrbRegPre c u w rn rd shamt sh rm st
  | .strbRegPost c u rn rd shamt sh rm => Sys2Proof.Machine.execStrbRegPost c u rn rd shamt sh rm st
  | .strbtImm c u rn rd imm12 => Sys2Proof.Machine.execStrbtImm c u rn rd imm12 st
  | .strbtReg c u rn rd shamt sh rm => Sys2Proof.Machine.execStrbtReg c u rn rd shamt sh rm st
  | .ldrbImmPre c u w rn rd imm12 => Sys2Proof.Machine.execLdrbImmPre c u w rn rd imm12 st
  | .ldrbImmPost c u rn rd imm12 => Sys2Proof.Machine.execLdrbImmPost c u rn rd imm12 st
  | .ldrbRegPre c u w rn rd shamt sh rm => Sys2Proof.Machine.execLdrbRegPre c u w rn rd shamt sh rm st
  | .ldrbRegPost c u rn rd shamt sh rm => Sys2Proof.Machine.execLdrbRegPost c u rn rd shamt sh rm st
  | .ldrbtImm c u rn rd imm12 => Sys2Proof.Machine.execLdrbtImm c u rn rd imm12 st
  | .ldrbtReg c u rn rd shamt sh rm => Sys2Proof.Machine.execLdrbtReg c u rn rd shamt sh rm st
  | .und c xHi xLo => Sys2Proof.Machine.execUnd c xHi xLo st
  | .stm c p u w rn rlist => Sys2Proof.Machine.execStm c p u w rn rlist st
  | .ldm c p u w rn rlist => Sys2Proof.Machine.execLdm c p u w rn rlist st
  | .stmUser c p u w rn rlist => Sys2Proof.Machine.execStmUser c p u w rn rlist st
  | .ldmUser c p u w rn rlist => Sys2Proof.Machine.execLdmUser c p u w rn rlist st
  | .ldmCpsr c p u w rn rlist => Sys2Proof.Machine.execLdmCpsr c p u w rn rlist st
  | .b c imm24 => Sys2Proof.Machine.execB c imm24 st
  | .bl c imm24 => Sys2Proof.Machine.execBl c imm24 st
  | .stc c p u n w rn crd cp offset8 => Sys2Proof.Machine.execStc c p u n w rn crd cp offset8 st
  | .ldc c p u n w rn crd cp offset8 => Sys2Proof.Machine.execLdc c p u n w rn crd cp offset8 st
  | .cdp c op1 crn crd cp op2 crm => Sys2Proof.Machine.execCdp c op1 crn crd cp op2 crm st
  | .mcr c op1 crn rd cp op2 crm => Sys2Proof.Machine.execMcr c op1 crn rd cp op2 crm st
  | .mrc c op1 crn rd cp op2 crm => Sys2Proof.Machine.execMrc c op1 crn rd cp op2 crm st
  | .swi c comment => Sys2Proof.Machine.execSwi c comment st
  | .tLslImm imm5 rs rd => Sys2Proof.Machine.execTLslImm imm5 rs rd st
  | .tLsrImm imm5 rs rd => Sys2Proof.Machine.execTLsrImm imm5 rs rd st
  | .tAsrImm imm5 rs rd => Sys2Proof.Machine.execTAsrImm imm5 rs rd st
  | .tAddReg rn rs rd => Sys2Proof.Machine.execTAddReg rn rs rd st
  | .tSubReg rn rs rd => Sys2Proof.Machine.execTSubReg rn rs rd st
  | .tAddImm3 imm3 rs rd => Sys2Proof.Machine.execTAddImm3 imm3 rs rd st
  | .tSubImm3 imm3 rs rd => Sys2Proof.Machine.execTSubImm3 imm3 rs rd st
  | .tMovImm8 rd imm8 => Sys2Proof.Machine.execTMovImm8 rd imm8 st
  | .tCmpImm8 rd imm8 => Sys2Proof.Machine.execTCmpImm8 rd imm8 st
  | .tAddImm8 rd imm8 => Sys2Proof.Machine.execTAddImm8 rd imm8 st
  | .tSubImm8 rd imm8 => Sys2Proof.Machine.execTSubImm8 rd imm8 st
  | .tAnd rs rd => Sys2Proof.Machine.execTAnd rs rd st
  | .tEor rs rd => Sys2Proof.Machine.execTEor rs rd st
  | .tLslReg rs rd => Sys2Proof.Machine.execTLslReg rs rd st
  | .tLsrReg rs rd => Sys2Proof.Machine.execTLsrReg rs rd st
  | .tAsrReg rs rd => Sys2Proof.Machine.execTAsrReg rs rd st
  | .tAdc rs rd => Sys2Proof.Machine.execTAdc rs rd st
  | .tSbc rs rd => Sys2Proof.Machine.execTSbc rs rd st
  | .tRor rs rd => Sys2Proof.Machine.execTRor rs rd st
  | .tTst rs rd => Sys2Proof.Machine.execTTst rs rd st
  | .tNeg rs rd => Sys2Proof.Machine.execTNeg rs rd st
  | .tCmpReg rs rd => Sys2Proof.Machine.execTCmpReg rs rd st
  | .tCmn rs rd => Sys2Proof.Machine.execTCmn rs rd st
  | .tOrr rs rd => Sys2Proof.Machine.execTOrr rs rd st
  | .tMul rs rd => Sys2Proof.Machine.execTMul rs rd st
  | .tBic rs rd => Sys2Proof.Machine.execTBic rs rd st
  | .tMvn rs rd => Sys2Proof.Machine.execTMvn rs rd st
  | .tAddHi h1 h2 rs rd => Sys2Proof.Machine.execTAddHi h1 h2 rs rd st
  | .tCmpHi h1 h2 rs rd => Sys2Proof.Machine.execTCmpHi h1 h2 rs rd st
  | .tMovHi h1 h2 rs rd => Sys2Proof.Machine.execTMovHi h1 h2 rs rd st
  | .tBx h2 rs sbz => Sys2Proof.Machine.execTBx h2 rs sbz st
  | .tLdrPc rd imm8 => Sys2Proof.Machine.execTLdrPc rd imm8 st
  | .tStrReg ro rb rd => Sys2Proof.Machine.execTStrReg ro rb rd st
  | .tStrbReg ro rb rd => Sys2Proof.Machine.execTStrbReg ro rb rd st
  | .tLdrReg ro rb rd => Sys2Proof.Machine.execTLdrReg ro rb rd st
  | .tLdrbReg ro rb rd => Sys2Proof.Machine.execTLdrbReg ro rb rd st
  | .tStrhReg ro rb rd => Sys2Proof.Machine.execTStrhReg ro rb rd st
  | .tLdsbReg ro rb rd => Sys2Proof.Machine.execTLdsbReg ro rb rd st
  | .tLdrhReg ro rb rd => Sys2Proof.Machine.execTLdrhReg ro rb rd st
  | .tLdshReg ro rb rd => Sys2Proof.Machine.execTLdshReg ro rb rd st
  | .tStrImm imm5 rb rd => Sys2Proof.Machine.execTStrImm imm5 rb rd st
  | .tLdrImm imm5 rb rd => Sys2Proof.Machine.execTLdrImm imm5 rb rd st
  | .tStrbImm imm5 rb rd => Sys2Proof.Machine.execTStrbImm imm5 rb rd st
  | .tLdrbImm imm5 rb rd => Sys2Proof.Machine.execTLdrbImm imm5 rb rd st
  | .tStrhImm imm5 rb rd => Sys2Proof.Machine.execTStrhImm imm5 rb rd st
  | .tLdrhImm imm5 rb rd => Sys2Proof.Machine.execTLdrhImm imm5 rb rd st
  | .tStrSp rd imm8 => Sys2Proof.Machine.execTStrSp rd imm8 st
  | .tLdrSp rd imm8 => Sys2Proof.Machine.execTLdrSp rd imm8 st
  | .tAddPc rd imm8 => Sys2Proof.Machine.execTAddPc rd imm8 st
  | .tAddSp rd imm8 => Sys2Proof.Machine.execTAddSp rd imm8 st
  | .tAddSpimm imm7 => Sys2Proof.Machine.execTAddSpimm imm7 st
  | .tSubSpimm imm7 => Sys2Proof.Machine.execTSubSpimm imm7 st
  | .tPush r rlist => Sys2Proof.Machine.execTPush r rlist st
  | .tPop r rlist => Sys2Proof.Machine.execTPop r rlist st
  | .tStmia rb rlist => Sys2Proof.Machine.execTStmia rb rlist st
  | .tLdmia rb rlist => Sys2Proof.Machine.execTLdmia rb rlist st
  | .tBeq imm8 => Sys2Proof.Machine.execTBeq imm8 st
  | .tBne imm8 => Sys2Proof.Machine.execTBne imm8 st
  | .tBcs imm8 => Sys2Proof.Machine.execTBcs imm8 st
  | .tBcc imm8 => Sys2Proof.Machine.execTBcc imm8 st
  | .tBmi imm8 => Sys2Proof.Machine.execTBmi imm8 st
  | .tBpl imm8 => Sys2Proof.Machine.execTBpl imm8 st
  | .tBvs imm8 => Sys2Proof.Machine.execTBvs imm8 st
  | .tBvc imm8 => Sys2Proof.Machine.execTBvc imm8 st
  | .tBhi imm8 => Sys2Proof.Machine.execTBhi imm8 st
  | .tBls imm8 => Sys2Proof.Machine.execTBls imm8 st
  | .tBge imm8 => Sys2Proof.Machine.execTBge imm8 st
  | .tBlt imm8 => Sys2Proof.Machine.execTBlt imm8 st
  | .tBgt imm8 => Sys2Proof.Machine.execTBgt imm8 st
  | .tBle imm8 => Sys2Proof.Machine.execTBle imm8 st
  | .tSwi comment => Sys2Proof.Machine.execTSwi comment st
  | .tB imm11 => Sys2Proof.Machine.execTB imm11 st
  | .tBlHi imm11 => Sys2Proof.Machine.execTBlHi imm11 st
  | .tBlLo imm11 => Sys2Proof.Machine.execTBlLo imm11 st

end Sys2Proof.Machine
end

