-- ==== Sys2Proof/Machine/CpuStep.lean ====
section
/-! DEFINITION. The CPU step: the asynchronous check, the fetch, running the decoded instruction, moving the PC
(40 R150 to R163, 60 R440). -/

namespace Sys2Proof.Machine

/-- Go on after a next state; a fault or a refusal stays. -/
def andThen (o : Outcome) (k : State → Outcome) : Outcome :=
  match o with
  | .next s => k s
  | .fault r => .fault r
  | .refused r => .refused r

/-- `x[15] AND NOT (w - 1)` (40 R151). -/
def State.alignPc (s : State) : State := s.setReg 15 (if s.cpsr.t then align2 (s.reg 15) else align4 (s.reg 15))

/-- The state in which a CPU step looks for exceptions and fetches: PC aligned, not redirected (40 R162). -/
def State.prepared (s : State) : State := { s.alignPc with redirected := false }

/-- The asynchronous check: Reset, then FIQ, then IRQ (60 R440). -/
def State.asyncException (s : State) : Option Exc :=
  if s.dev.rstPending then some .reset
  else if s.dev.fiqPending && !s.cpsr.f then some .fiq
  else if s.dev.irqLine && !s.cpsr.i then some .irq
  else none

/-- Enter what the asynchronous check found. -/
def State.enterAsync (s : State) (e : Exc) : State :=
  match e with
  | .reset => s.enterReset
  | e => s.enter e

/-- The next free values are new ones (log entry 6). -/
def State.drawn (s : State) : State := { s with draws := s.draws + 1 }

/-- Run a fetched wide word: the instruction, or the Undefined exception for a reserved word whose condition passes
(40 R154, R156, 30_encoding R137, log entry 22). -/
def State.runWide (s : State) (w : Word) : Outcome :=
  match decodeWide w with
  | some i => exec i s
  | none => s.ifPassed (condAt 28 w) (.next (s.enter .undefined))

/-- Run a fetched narrow halfword: the instruction, or the Undefined exception for a reserved one
(40 R155, R156, 30_encoding R138). -/
def State.runNarrow (s : State) (h : Half) : Outcome :=
  match decodeNarrow h with
  | some i => exec i s
  | none => .next (s.enter .undefined)

/-- Fetch at `x[15] - Δ` and run, or take the Prefetch Abort (40 R152, R153). -/
def State.fetchAndRun (s : State) : Outcome :=
  if s.cpsr.t then
    match s.load16 s.currentInstruction with
    | some h => s.drawn.runNarrow h
    | none => .next (s.drawn.enter .prefetchAbort)
  else
    match s.load32 s.currentInstruction with
    | some w => s.drawn.runWide w
    | none => .next (s.drawn.enter .prefetchAbort)

/-- The end of a CPU step: advance by the width `w` of the fetched instruction, or refill after a redirect
(40 R157, R158, log entry 21). -/
def State.finishStep (s : State) (w : Word) : State :=
  if s.redirected then { s.setReg 15 (s.reg 15 + offsetOf s.cpsr.t) with redirected := false }
  else s.setReg 15 (s.reg 15 + w)

/-- `cpu_step()` (40 R162). -/
def State.cpuStep (s : State) : Outcome :=
  let p := s.prepared
  let o :=
    match p.asyncException with
    | some e => .next (p.enterAsync e)
    | none => p.fetchAndRun
  andThen o fun t => .next (t.finishStep (widthOf s.cpsr.t))

end Sys2Proof.Machine
end

