-- ==== Sys2Proof/Machine/DmaEngine.lean ====
section
/-! DEFINITION. The DMA step (60 R475 to R480). -/

namespace Sys2Proof.Machine

/-- An address after one unit of `u` bytes (60 R476). -/
def AddrMode.stepped (m : AddrMode) (a u : Word) : Word :=
  match m with
  | .increment => a + u
  | .decrement => a - u
  | .fixed => a
  | .reload => a + u

/-- The unit size in bytes (60 R477). -/
def DmaControl.unitBytes (c : DmaControl) : Word := if c.isWord then 4 else 2

/-- Replace channel `ch` of the machine. -/
def State.setDma (s : State) (ch : Fin 4) (c : DmaChannel) : State := { s with dev := s.dev.setDma ch c }

/-- The word that a unit of four bytes moves: the bus word, or the open-bus value (60 R477, R480, 20_memory R103). -/
def State.dmaWord (s : State) (src : Word) : Word := (s.load32 (align4 src)).getD (Config.openBus s.draws src 4)

/-- The halfword that a unit of two bytes moves. -/
def State.dmaHalf (s : State) (src : Word) : Half :=
  (s.load16 (align2 src)).getD ((Config.openBus s.draws src 2).setWidth 16)

/-- Load one unit and store it; a failed store is dropped (60 R475, R477, R480). -/
def State.dmaMove (s : State) (isWord : Bool) (src dst : Word) : State :=
  if isWord then (s.store32 (align4 dst) (s.dmaWord src)).getD s
  else (s.store16 (align2 dst) (s.dmaHalf src)).getD s

/-- One unit of channel `ch`, with the control fields read when the step began (60 R477). -/
def State.dmaUnit (ctrl : DmaControl) (ch : Fin 4) (s : State) : State :=
  let s1 := s.dmaMove ctrl.isWord s.dev.dma[ch].src s.dev.dma[ch].dst
  let c := s1.dev.dma[ch]
  let s2 := s1.setDma ch
    { c with
      src := ctrl.srcMode.stepped c.src ctrl.unitBytes
      dst := ctrl.dstMode.stepped c.dst ctrl.unitBytes }
  { s2 with draws := s2.draws + 1 }

/-- The units of a transfer, one after the other (60 R477). -/
def State.dmaUnits (ctrl : DmaControl) (ch : Fin 4) : Nat → State → State
  | 0, s => s
  | n + 1, s => State.dmaUnits ctrl ch n (s.dmaUnit ctrl ch)

/-- A channel at completion, its interrupt aside (60 R478). -/
def DmaChannel.completed (p : Params) (ch : Fin 4) (c : DmaChannel) : DmaChannel :=
  if c.ctrl.repeats then
    { c with
      active := false
      remaining := c.count p ch
      dst := if c.ctrl.dstMode = .reload then c.dad else c.dst }
  else { c with active := false, ctrl := { c.ctrl with enable := false } }

/-- `complete(ch)` (60 R478), from the registers as they are now. -/
def Devices.complete (p : Params) (ch : Fin 4) (d : Devices) : Devices :=
  let c := d.dma[ch]
  let d := d.setDma ch (c.completed p ch)
  if c.ctrl.irq then Devices.raise p (8 + ch.val) d else d

/-- The lowest-numbered active channel (60 R477, R479). -/
def Devices.activeChannel (d : Devices) : Option (Fin 4) := channels.find? fun ch => d.dma[ch].active

/-- `dma_step()` for channel `ch` (60 R477). -/
def State.dmaStep (s : State) (ch : Fin 4) : State :=
  let c := s.dev.dma[ch]
  let s := State.dmaUnits c.ctrl ch c.remaining s
  { s with dev := s.dev.complete s.params ch }

end Sys2Proof.Machine
end

