-- ==== Sys2Proof/Machine/Scheduler.lean ====
section
/-! DEFINITION. The Step Scheduler: one tick (60 R500 to R505), and the calls that come from outside
(60 R441, R470, R503). -/

namespace Sys2Proof.Machine

/-- Step the one agent that has the tick: a DMA channel before the CPU, nothing in Halt and Stop (60 R500 to R502). -/
def State.agentStep (s : State) : Outcome :=
  match s.dev.activeChannel with
  | some ch => .next (s.dmaStep ch)
  | none =>
    match s.dev.power with
    | .run => s.cpuStep
    | .halt => .next s
    | .stop => .next s

/-- `timer_step(P_CYCLES)` (60 R490, R504); the notices of the tick before are gone (log entry 14). -/
def State.timerPhase (s : State) : State :=
  { s with
    dev := Devices.timerStep s.params (Config.cycles s.draws + 1) { s.dev with notices := [] }
    draws := s.draws + 1 }

/-- A 16- or 32-bit external store at a misaligned address stops the run: a bus node may assert alignment
(20_memory R90, 93 U16, log entry 13). -/
def aligned (a : Word) (bytes : Nat) (k : Outcome) : Outcome := if a.toNat % bytes = 0 then k else .fault .busAssert

/-- One call from outside (60 R470, R503); the success flag of a store is the caller's. -/
def State.hostCall (s : State) (call : HostCall) : Outcome :=
  match call with
  | .raise source => .next { s with dev := Devices.raise s.params source.val s.dev }
  | .vblank => .next { s with dev := s.dev.signalVblank }
  | .hblank line => .next { s with dev := Devices.signalHblank s.params line s.dev }
  | .fifoRefresh ch => .next { s with dev := Devices.fifoRefresh ch s.dev }
  | .setFiq level => .next { s with dev := { s.dev with fiqPending := level } }
  | .setReset => .next { s with dev := { s.dev with rstPending := true } }
  | .store8 a v => .next ((s.store8 a v).getD s)
  | .store16 a v => aligned a 2 (.next ((s.store16 a v).getD s))
  | .store32 a v => aligned a 4 (.next ((s.store32 a v).getD s))
  | .nodeByte cell v => .next { s with mem := Memory.write s.mem cell v }

/-- The calls of one tick, in order. -/
def runCalls : List HostCall → State → Outcome
  | [], s => .next s
  | call :: rest, s => andThen (s.hostCall call) (runCalls rest)

/-- `external_phase()` (60 R503): the next batch of calls (log entry 12). -/
def State.externalPhase (s : State) : Outcome :=
  match s.hostCalls with
  | [] => .next s
  | batch :: rest => runCalls batch { s with hostCalls := rest }

/-- `tick()` (60 R500). -/
def State.tick (s : State) : Outcome := andThen s.agentStep fun t => t.timerPhase.externalPhase

/-! ## Placing an instruction (log entry 19) -/

/-- The `n` bytes of a number from the least significant on, written from `a` upward. -/
def placeBytes (w : Nat) : Nat → Nat → List Host.Cell → List Host.Cell
  | 0, _, m => m
  | n + 1, a, m => placeBytes (w / 256) n (a + 1) (Memory.write m a (BitVec.ofNat 8 w))

/-- The state in which a CPU step fetches at once: Run, no channel active, nothing pending, width flag `narrow`. -/
def State.readyToFetch (s : State) (narrow : Bool) : State :=
  { s with
    cpsr := { s.cpsr with t := narrow }
    dev :=
      { s.dev with
        power := .run
        rstPending := false
        fiqPending := false
        master := false
        dma := s.dev.dma.map fun c => { c with active := false } } }

/-- The state with an instruction of 16 or 32 bits where the next CPU step fetches. -/
def State.placed (s : State) (nbits w : Nat) : State :=
  let s := s.readyToFetch (nbits ≤ 16)
  let cell := cellOf s.params s.prepared.currentInstruction
  { s with mem := placeBytes w (if nbits ≤ 16 then 2 else 4) cell s.mem }

end Sys2Proof.Machine
end

