-- ==== Sys2Proof/Machine/Step.lean ====
section
/-! DEFINITION. One step of the machine: one tick of the Step Scheduler (60 R500, log entry 20). -/

namespace Sys2Proof.Machine

/-- One step: one tick (60 R500). -/
def step (s : State) : Outcome := s.tick

/-- `s` with an instruction where `step` fetches the next one, given as spec/opcode_table.json numbers its bits:
16 bits narrow, else wide (log entry 19). -/
def State.withFetchWord (s : State) (nbits w : Nat) : State := s.placed nbits w

end Sys2Proof.Machine
end

