-- ==== Sys2Proof/WellFormed.lean ====
section
/-! DEFINITION. Well-formed instructions: those whose operands are not one of the combinations that the spec's
treatment list refuses (93_implementation_defined U5, U7, U8, U11 to U14). Everything else of an instruction is
well-formed by its type: each field has exactly the values its encoding has. -/

namespace Sys2Proof

/-- The refused operand combination of an instruction, none where there is none. -/
def Instr.unpredictable : Instr → Option Unpredictable
  | .andImm _ _ _ _ _ _ => none
  | .andRegIs _ _ _ _ _ _ _ => none
  | .andRegRs _ _ _ _ rs _ _ => checkShiftReg rs
  | .eorImm _ _ _ _ _ _ => none
  | .eorRegIs _ _ _ _ _ _ _ => none
  | .eorRegRs _ _ _ _ rs _ _ => checkShiftReg rs
  | .subImm _ _ _ _ _ _ => none
  | .subRegIs _ _ _ _ _ _ _ => none
  | .subRegRs _ _ _ _ rs _ _ => checkShiftReg rs
  | .rsbImm _ _ _ _ _ _ => none
  | .rsbRegIs _ _ _ _ _ _ _ => none
  | .rsbRegRs _ _ _ _ rs _ _ => checkShiftReg rs
  | .addImm _ _ _ _ _ _ => none
  | .addRegIs _ _ _ _ _ _ _ => none
  | .addRegRs _ _ _ _ rs _ _ => checkShiftReg rs
  | .adcImm _ _ _ _ _ _ => none
  | .adcRegIs _ _ _ _ _ _ _ => none
  | .adcRegRs _ _ _ _ rs _ _ => checkShiftReg rs
  | .sbcImm _ _ _ _ _ _ => none
  | .sbcRegIs _ _ _ _ _ _ _ => none
  | .sbcRegRs _ _ _ _ rs _ _ => checkShiftReg rs
  | .rscImm _ _ _ _ _ _ => none
  | .rscRegIs _ _ _ _ _ _ _ => none
  | .rscRegRs _ _ _ _ rs _ _ => checkShiftReg rs
  | .tstImm _ _ _ _ _ => none
  | .tstRegIs _ _ _ _ _ _ => none
  | .tstRegRs _ _ _ rs _ _ => checkShiftReg rs
  | .teqImm _ _ _ _ _ => none
  | .teqRegIs _ _ _ _ _ _ => none
  | .teqRegRs _ _ _ rs _ _ => checkShiftReg rs
  | .cmpImm _ _ _ _ _ => none
  | .cmpRegIs _ _ _ _ _ _ => none
  | .cmpRegRs _ _ _ rs _ _ => checkShiftReg rs
  | .cmnImm _ _ _ _ _ => none
  | .cmnRegIs _ _ _ _ _ _ => none
  | .cmnRegRs _ _ _ rs _ _ => checkShiftReg rs
  | .orrImm _ _ _ _ _ _ => none
  | .orrRegIs _ _ _ _ _ _ _ => none
  | .orrRegRs _ _ _ _ rs _ _ => checkShiftReg rs
  | .movImm _ _ _ _ _ _ => none
  | .movRegIs _ _ _ _ _ _ _ => none
  | .movRegRs _ _ _ _ rs _ _ => checkShiftReg rs
  | .bicImm _ _ _ _ _ _ => none
  | .bicRegIs _ _ _ _ _ _ _ => none
  | .bicRegRs _ _ _ _ rs _ _ => checkShiftReg rs
  | .mvnImm _ _ _ _ _ _ => none
  | .mvnRegIs _ _ _ _ _ _ _ => none
  | .mvnRegRs _ _ _ _ rs _ _ => checkShiftReg rs
  | .mrsCpsr _ rd => checkMrs rd
  | .mrsSpsr _ rd => checkMrs rd
  | .msrRegCpsr _ _ rm => checkMsrReg rm
  | .msrRegSpsr _ _ rm => checkMsrReg rm
  | .msrImmCpsr _ _ _ _ => none
  | .msrImmSpsr _ _ _ _ => none
  | .mul _ _ rd _ rs rm => checkMul rd rm rs
  | .mla _ _ rd rn rs rm => checkMla rd rn rm rs
  | .umull _ _ rdHi rdLo rs rm => checkMull rdHi rdLo rm rs
  | .umlal _ _ rdHi rdLo rs rm => checkMull rdHi rdLo rm rs
  | .smull _ _ rdHi rdLo rs rm => checkMull rdHi rdLo rm rs
  | .smlal _ _ rdHi rdLo rs rm => checkMull rdHi rdLo rm rs
  | .swp _ rn rd rm => checkSwap rn rd rm
  | .swpb _ rn rd rm => checkSwap rn rd rm
  | .bx _ _ => none
  | .strhReg _ p _ w rn rd rm => checkHalfReg p w rn rd rm
  | .strhImm _ p _ w rn rd _ _ => checkHalfImm p w rn rd
  | .ldrhReg _ p _ w rn rd rm => checkHalfReg p w rn rd rm
  | .ldrhImm _ p _ w rn rd _ _ => checkHalfImm p w rn rd
  | .ldrsbReg _ p _ w rn rd rm => checkHalfReg p w rn rd rm
  | .ldrsbImm _ p _ w rn rd _ _ => checkHalfImm p w rn rd
  | .ldrshReg _ p _ w rn rd rm => checkHalfReg p w rn rd rm
  | .ldrshImm _ p _ w rn rd _ _ => checkHalfImm p w rn rd
  | .strImmPre _ _ w rn _ _ => checkWordImm w rn
  | .strImmPost _ _ rn _ _ => checkWordImm true rn
  | .strRegPre _ _ w rn _ _ _ rm => checkWordReg w false rn rm
  | .strRegPost _ _ rn _ _ _ rm => checkWordReg true true rn rm
  | .strtImm _ _ rn _ _ => checkWordImm true rn
  | .strtReg _ _ rn _ _ _ rm => checkWordReg true true rn rm
  | .ldrImmPre _ _ w rn _ _ => checkWordImm w rn
  | .ldrImmPost _ _ rn _ _ => checkWordImm true rn
  | .ldrRegPre _ _ w rn _ _ _ rm => checkWordReg w false rn rm
  | .ldrRegPost _ _ rn _ _ _ rm => checkWordReg true true rn rm
  | .ldrtImm _ _ rn _ _ => checkWordImm true rn
  | .ldrtReg _ _ rn _ _ _ rm => checkWordReg true true rn rm
  | .strbImmPre _ _ w rn rd _ => checkByteImm w rn rd
  | .strbImmPost _ _ rn rd _ => checkByteImm true rn rd
  | .strbRegPre _ _ w rn rd _ _ rm => checkByteReg w false rn rd rm
  | .strbRegPost _ _ rn rd _ _ rm => checkByteReg true true rn rd rm
  | .strbtImm _ _ rn rd _ => checkByteImm true rn rd
  | .strbtReg _ _ rn rd _ _ rm => checkByteReg true true rn rd rm
  | .ldrbImmPre _ _ w rn rd _ => checkByteImm w rn rd
  | .ldrbImmPost _ _ rn rd _ => checkByteImm true rn rd
  | .ldrbRegPre _ _ w rn rd _ _ rm => checkByteReg w false rn rd rm
  | .ldrbRegPost _ _ rn rd _ _ rm => checkByteReg true true rn rd rm
  | .ldrbtImm _ _ rn rd _ => checkByteImm true rn rd
  | .ldrbtReg _ _ rn rd _ _ rm => checkByteReg true true rn rd rm
  | .und _ _ _ => none
  | .stm _ _ _ _ rn rlist => checkBlock rn rlist
  | .ldm _ _ _ _ rn rlist => checkBlock rn rlist
  | .stmUser _ _ _ w rn rlist => checkUserBlock w rn rlist
  | .ldmUser _ _ _ w rn rlist => checkUserBlock w rn (0#1 ++ rlist)
  | .ldmCpsr _ _ _ _ rn rlist => checkBlock rn (1#1 ++ rlist)
  | .b _ _ => none
  | .bl _ _ => none
  | .stc _ _ _ _ _ _ _ _ _ => none
  | .ldc _ _ _ _ _ _ _ _ _ => none
  | .cdp _ _ _ _ _ _ _ => none
  | .mcr _ _ _ _ _ _ _ => none
  | .mrc _ _ _ _ _ _ _ => none
  | .swi _ _ => none
  | .tLslImm _ _ _ => none
  | .tLsrImm _ _ _ => none
  | .tAsrImm _ _ _ => none
  | .tAddReg _ _ _ => none
  | .tSubReg _ _ _ => none
  | .tAddImm3 _ _ _ => none
  | .tSubImm3 _ _ _ => none
  | .tMovImm8 _ _ => none
  | .tCmpImm8 _ _ => none
  | .tAddImm8 _ _ => none
  | .tSubImm8 _ _ => none
  | .tAnd _ _ => none
  | .tEor _ _ => none
  | .tLslReg _ _ => none
  | .tLsrReg _ _ => none
  | .tAsrReg _ _ => none
  | .tAdc _ _ => none
  | .tSbc _ _ => none
  | .tRor _ _ => none
  | .tTst _ _ => none
  | .tNeg _ _ => none
  | .tCmpReg _ _ => none
  | .tCmn _ _ => none
  | .tOrr _ _ => none
  | .tMul _ _ => none
  | .tBic _ _ => none
  | .tMvn _ _ => none
  | .tAddHi _ _ _ _ => none
  | .tCmpHi _ _ _ _ => none
  | .tMovHi _ _ _ _ => none
  | .tBx _ _ _ => none
  | .tLdrPc _ _ => none
  | .tStrReg _ _ _ => none
  | .tStrbReg _ _ _ => none
  | .tLdrReg _ _ _ => none
  | .tLdrbReg _ _ _ => none
  | .tStrhReg _ _ _ => none
  | .tLdsbReg _ _ _ => none
  | .tLdrhReg _ _ _ => none
  | .tLdshReg _ _ _ => none
  | .tStrImm _ _ _ => none
  | .tLdrImm _ _ _ => none
  | .tStrbImm _ _ _ => none
  | .tLdrbImm _ _ _ => none
  | .tStrhImm _ _ _ => none
  | .tLdrhImm _ _ _ => none
  | .tStrSp _ _ => none
  | .tLdrSp _ _ => none
  | .tAddPc _ _ => none
  | .tAddSp _ _ => none
  | .tAddSpimm _ => none
  | .tSubSpimm _ => none
  | .tPush r rlist => checkStack r rlist
  | .tPop r rlist => checkStack r rlist
  | .tStmia _ rlist => checkNarrowBlock rlist
  | .tLdmia _ rlist => checkNarrowBlock rlist
  | .tBeq _ => none
  | .tBne _ => none
  | .tBcs _ => none
  | .tBcc _ => none
  | .tBmi _ => none
  | .tBpl _ => none
  | .tBvs _ => none
  | .tBvc _ => none
  | .tBhi _ => none
  | .tBls _ => none
  | .tBge _ => none
  | .tBlt _ => none
  | .tBgt _ => none
  | .tBle _ => none
  | .tSwi _ => none
  | .tB _ => none
  | .tBlHi _ => none
  | .tBlLo _ => none

/-- The instruction's operands are not a refused combination. -/
def Instr.wf (i : Instr) : Bool := i.unpredictable.isNone

end Sys2Proof
end

