-- ==== Sys2Proof/Safety.lean ====
section
/-! DEFINITION. The terms that claims are stated in: the invariant of the machine, what an instruction leaves alone,
and the families of instructions as functions of their operands. -/

namespace Sys2Proof.Machine

/-! ## The invariant -/

/-- A timer channel's overflow cycle is kept consistent with its mode (10_state R56): there is one exactly while the
channel is started and free-running, it lies ahead of `now` (60 R488), and by at most one whole count (60 R489). -/
def TimerChannel.consistent (p : Params) (now : Nat) (t : Fin 4) (ch : TimerChannel) : Bool :=
  match ch.overflowAt with
  | none => !(ch.control.start && freeRunning t ch.control)
  | some o =>
    ch.control.start && freeRunning t ch.control && now < o && o ≤ now + ch.control.cycles p * 0x10000

/-- The power state is Run, or the wake condition of Halt or Stop is false (60 R451). -/
def Devices.restful (p : Params) (d : Devices) : Bool :=
  match d.power with
  | .run => true
  | .halt => !((!p.wakeRequiresIme || d.master) && d.anyPending)
  | .stop => !((!p.wakeRequiresIme || d.master) && d.enabled &&& d.pending &&& p.stopWakeMask != 0)

/-- The invariant that every step keeps: memory is canonical (log entry 2), no step is in progress (10_state R60), the
timers are consistent (R56), an active DMA channel is enabled (60 R472, R478), a sleeping machine has no reason to wake
(60 R451), and a prescaler counts at least one cycle (log entry 18). -/
abbrev State.Inv (s : State) : Prop :=
  Memory.wf s.mem = true ∧ s.redirected = false ∧
    (∀ t : Fin 4, (s.dev.timers[t]).consistent s.params s.dev.now t = true) ∧
    (∀ ch : Fin 4, (s.dev.dma[ch]).active = true → (s.dev.dma[ch]).ctrl.enable = true) ∧
    s.dev.restful s.params = true ∧ (∀ k : Fin 4, 1 ≤ s.params.prescaler[k])

/-! ## What an instruction leaves alone -/

/-- Every byte of memory reads as before. -/
def MemKept (s t : State) : Prop := ∀ a, Memory.read t.mem a = Memory.read s.mem a

/-- Every byte of memory outside the `n` bytes from `lo` on reads as before. -/
def MemKeptOutside (lo n : Nat) (s t : State) : Prop :=
  ∀ a, (a < lo ∨ lo + n ≤ a) → Memory.read t.mem a = Memory.read s.mem a

/-- Every register but those of `ds` and the PC is as before. -/
def RegsKeptBut (ds : List Reg) (s t : State) : Prop := ∀ r, r ≠ 15 → r ∉ ds → t.reg r = s.reg r

/-- The PC is as before and is not marked as redirected anew: the step will only move it on (40 R157, R158). -/
def PcKept (s t : State) : Prop := t.reg 15 = s.reg 15 ∧ t.redirected = s.redirected

/-- The status word's fields other than the four flags are as before. -/
def ControlKept (s t : State) : Prop :=
  t.cpsr.i = s.cpsr.i ∧ t.cpsr.f = s.cpsr.f ∧ t.cpsr.t = s.cpsr.t ∧ t.cpsr.mode = s.cpsr.mode

/-- The SPSR, the banks, the devices, the record of the free regions, the schedule of outside calls, the free values'
index and the parameters are as before. -/
def SystemKept (s t : State) : Prop :=
  t.spsr = s.spsr ∧ t.banks = s.banks ∧ t.dev = s.dev ∧ t.nodeStores = s.nodeStores ∧ t.hostCalls = s.hostCalls ∧
    t.draws = s.draws ∧ t.params = s.params

/-- As `SystemKept`, the devices and the external blocks aside: a store may reach their registers. -/
def CoreKept (s t : State) : Prop :=
  t.spsr = s.spsr ∧ t.banks = s.banks ∧ t.hostCalls = s.hostCalls ∧ t.draws = s.draws ∧ t.params = s.params

/-- The address reaches a region whose storage a load reads and a store writes: the byte at the address is the cell
`cellOf p a`, and the bytes of its aligned word are the cells beside it. -/
def InMemory (p : Params) (a : Word) : Prop :=
  ∃ bank off r, target p a = .node bank off r ∧ r.load = .cells ∧ r.store = .cells

/-- The first cell that a store at the address writes: none where it reaches no storage (a register block, a region that
ignores or fails stores or that a block behind it decides on, an unmapped address). -/
def storedCell (p : Params) (a : Word) : Option Nat :=
  match target p a with
  | .node _ off r => if r.store = .cells then some (cellIn r off) else none
  | .absent => none
  | .block _ _ => none

/-- Every byte of memory is as before but for the `n` bytes that a store at address `a` writes. -/
def MemKeptButStore (a : Word) (n : Nat) (s t : State) : Prop :=
  ∀ c, (∀ lo, storedCell s.params a = some lo → c < lo ∨ lo + n ≤ c) → Memory.read t.mem c = Memory.read s.mem c

/-! ## The condition of an instruction -/

/-- The condition field of a wide instruction (30_encoding R113); a narrow one has none (40 R155). -/
def condOf : Instr → Option Cond
  | .andImm c _ _ _ _ _ => some c
  | .andRegIs c _ _ _ _ _ _ => some c
  | .andRegRs c _ _ _ _ _ _ => some c
  | .eorImm c _ _ _ _ _ => some c
  | .eorRegIs c _ _ _ _ _ _ => some c
  | .eorRegRs c _ _ _ _ _ _ => some c
  | .subImm c _ _ _ _ _ => some c
  | .subRegIs c _ _ _ _ _ _ => some c
  | .subRegRs c _ _ _ _ _ _ => some c
  | .rsbImm c _ _ _ _ _ => some c
  | .rsbRegIs c _ _ _ _ _ _ => some c
  | .rsbRegRs c _ _ _ _ _ _ => some c
  | .addImm c _ _ _ _ _ => some c
  | .addRegIs c _ _ _ _ _ _ => some c
  | .addRegRs c _ _ _ _ _ _ => some c
  | .adcImm c _ _ _ _ _ => some c
  | .adcRegIs c _ _ _ _ _ _ => some c
  | .adcRegRs c _ _ _ _ _ _ => some c
  | .sbcImm c _ _ _ _ _ => some c
  | .sbcRegIs c _ _ _ _ _ _ => some c
  | .sbcRegRs c _ _ _ _ _ _ => some c
  | .rscImm c _ _ _ _ _ => some c
  | .rscRegIs c _ _ _ _ _ _ => some c
  | .rscRegRs c _ _ _ _ _ _ => some c
  | .tstImm c _ _ _ _ => some c
  | .tstRegIs c _ _ _ _ _ => some c
  | .tstRegRs c _ _ _ _ _ => some c
  | .teqImm c _ _ _ _ => some c
  | .teqRegIs c _ _ _ _ _ => some c
  | .teqRegRs c _ _ _ _ _ => some c
  | .cmpImm c _ _ _ _ => some c
  | .cmpRegIs c _ _ _ _ _ => some c
  | .cmpRegRs c _ _ _ _ _ => some c
  | .cmnImm c _ _ _ _ => some c
  | .cmnRegIs c _ _ _ _ _ => some c
  | .cmnRegRs c _ _ _ _ _ => some c
  | .orrImm c _ _ _ _ _ => some c
  | .orrRegIs c _ _ _ _ _ _ => some c
  | .orrRegRs c _ _ _ _ _ _ => some c
  | .movImm c _ _ _ _ _ => some c
  | .movRegIs c _ _ _ _ _ _ => some c
  | .movRegRs c _ _ _ _ _ _ => some c
  | .bicImm c _ _ _ _ _ => some c
  | .bicRegIs c _ _ _ _ _ _ => some c
  | .bicRegRs c _ _ _ _ _ _ => some c
  | .mvnImm c _ _ _ _ _ => some c
  | .mvnRegIs c _ _ _ _ _ _ => some c
  | .mvnRegRs c _ _ _ _ _ _ => some c
  | .mrsCpsr c _ => some c
  | .mrsSpsr c _ => some c
  | .msrRegCpsr c _ _ => some c
  | .msrRegSpsr c _ _ => some c
  | .msrImmCpsr c _ _ _ => some c
  | .msrImmSpsr c _ _ _ => some c
  | .mul c _ _ _ _ _ => some c
  | .mla c _ _ _ _ _ => some c
  | .umull c _ _ _ _ _ => some c
  | .umlal c _ _ _ _ _ => some c
  | .smull c _ _ _ _ _ => some c
  | .smlal c _ _ _ _ _ => some c
  | .swp c _ _ _ => some c
  | .swpb c _ _ _ => some c
  | .bx c _ => some c
  | .strhReg c _ _ _ _ _ _ => some c
  | .strhImm c _ _ _ _ _ _ _ => some c
  | .ldrhReg c _ _ _ _ _ _ => some c
  | .ldrhImm c _ _ _ _ _ _ _ => some c
  | .ldrsbReg c _ _ _ _ _ _ => some c
  | .ldrsbImm c _ _ _ _ _ _ _ => some c
  | .ldrshReg c _ _ _ _ _ _ => some c
  | .ldrshImm c _ _ _ _ _ _ _ => some c
  | .strImmPre c _ _ _ _ _ => some c
  | .strImmPost c _ _ _ _ => some c
  | .strRegPre c _ _ _ _ _ _ _ => some c
  | .strRegPost c _ _ _ _ _ _ => some c
  | .strtImm c _ _ _ _ => some c
  | .strtReg c _ _ _ _ _ _ => some c
  | .ldrImmPre c _ _ _ _ _ => some c
  | .ldrImmPost c _ _ _ _ => some c
  | .ldrRegPre c _ _ _ _ _ _ _ => some c
  | .ldrRegPost c _ _ _ _ _ _ => some c
  | .ldrtImm c _ _ _ _ => some c
  | .ldrtReg c _ _ _ _ _ _ => some c
  | .strbImmPre c _ _ _ _ _ => some c
  | .strbImmPost c _ _ _ _ => some c
  | .strbRegPre c _ _ _ _ _ _ _ => some c
  | .strbRegPost c _ _ _ _ _ _ => some c
  | .strbtImm c _ _ _ _ => some c
  | .strbtReg c _ _ _ _ _ _ => some c
  | .ldrbImmPre c _ _ _ _ _ => some c
  | .ldrbImmPost c _ _ _ _ => some c
  | .ldrbRegPre c _ _ _ _ _ _ _ => some c
  | .ldrbRegPost c _ _ _ _ _ _ => some c
  | .ldrbtImm c _ _ _ _ => some c
  | .ldrbtReg c _ _ _ _ _ _ => some c
  | .und c _ _ => some c
  | .stm c _ _ _ _ _ => some c
  | .ldm c _ _ _ _ _ => some c
  | .stmUser c _ _ _ _ _ => some c
  | .ldmUser c _ _ _ _ _ => some c
  | .ldmCpsr c _ _ _ _ _ => some c
  | .b c _ => some c
  | .bl c _ => some c
  | .stc c _ _ _ _ _ _ _ _ => some c
  | .ldc c _ _ _ _ _ _ _ _ => some c
  | .cdp c _ _ _ _ _ _ => some c
  | .mcr c _ _ _ _ _ _ => some c
  | .mrc c _ _ _ _ _ _ => some c
  | .swi c _ => some c
  | .tLslImm _ _ _ => none
  | .tLsrImm _ _ _ => none
  | .tAsrImm _ _ _ => none
  | .tAddReg _ _ _ => none
  | .tSubReg _ _ _ => none
  | .tAddImm3 _ _ _ => none
  | .tSubImm3 _ _ _ => none
  | .tMovImm8 _ _ => none
  | .tCmpImm8 _ _ => none
  | .tAddImm8 _ _ => none
  | .tSubImm8 _ _ => none
  | .tAnd _ _ => none
  | .tEor _ _ => none
  | .tLslReg _ _ => none
  | .tLsrReg _ _ => none
  | .tAsrReg _ _ => none
  | .tAdc _ _ => none
  | .tSbc _ _ => none
  | .tRor _ _ => none
  | .tTst _ _ => none
  | .tNeg _ _ => none
  | .tCmpReg _ _ => none
  | .tCmn _ _ => none
  | .tOrr _ _ => none
  | .tMul _ _ => none
  | .tBic _ _ => none
  | .tMvn _ _ => none
  | .tAddHi _ _ _ _ => none
  | .tCmpHi _ _ _ _ => none
  | .tMovHi _ _ _ _ => none
  | .tBx _ _ _ => none
  | .tLdrPc _ _ => none
  | .tStrReg _ _ _ => none
  | .tStrbReg _ _ _ => none
  | .tLdrReg _ _ _ => none
  | .tLdrbReg _ _ _ => none
  | .tStrhReg _ _ _ => none
  | .tLdsbReg _ _ _ => none
  | .tLdrhReg _ _ _ => none
  | .tLdshReg _ _ _ => none
  | .tStrImm _ _ _ => none
  | .tLdrImm _ _ _ => none
  | .tStrbImm _ _ _ => none
  | .tLdrbImm _ _ _ => none
  | .tStrhImm _ _ _ => none
  | .tLdrhImm _ _ _ => none
  | .tStrSp _ _ => none
  | .tLdrSp _ _ => none
  | .tAddPc _ _ => none
  | .tAddSp _ _ => none
  | .tAddSpimm _ => none
  | .tSubSpimm _ => none
  | .tPush _ _ => none
  | .tPop _ _ => none
  | .tStmia _ _ => none
  | .tLdmia _ _ => none
  | .tBeq _ => none
  | .tBne _ => none
  | .tBcs _ => none
  | .tBcc _ => none
  | .tBmi _ => none
  | .tBpl _ => none
  | .tBvs _ => none
  | .tBvc _ => none
  | .tBhi _ => none
  | .tBls _ => none
  | .tBge _ => none
  | .tBlt _ => none
  | .tBgt _ => none
  | .tBle _ => none
  | .tSwi _ => none
  | .tB _ => none
  | .tBlHi _ => none
  | .tBlLo _ => none

/-! ## Data processing (42 R190) -/

/-- The three operand formats. -/
inductive DpForm where
  | imm (rot : BitVec 4) (imm8 : BitVec 8)
  | regIs (shamt : BitVec 5) (sh : Shift) (rm : Reg)
  | regRs (rs : Reg) (sh : Shift) (rm : Reg)
  deriving DecidableEq, Repr

/-- The instruction of an operation and a format; `s` is not looked at for the four compares, and the ignored field is
given by `rd` (compares) or `rn` (MOV, MVN). -/
def dpInstr (o : AluOp) (c : Cond) (s : Bool) (rn rd : Reg) (form : DpForm) : Instr :=
  match form with
  | .imm rot imm8 =>
    match o with
    | .and => .andImm c s rn rd rot imm8
    | .eor => .eorImm c s rn rd rot imm8
    | .sub => .subImm c s rn rd rot imm8
    | .rsb => .rsbImm c s rn rd rot imm8
    | .add => .addImm c s rn rd rot imm8
    | .adc => .adcImm c s rn rd rot imm8
    | .sbc => .sbcImm c s rn rd rot imm8
    | .rsc => .rscImm c s rn rd rot imm8
    | .tst => .tstImm c rn rd rot imm8
    | .teq => .teqImm c rn rd rot imm8
    | .cmp => .cmpImm c rn rd rot imm8
    | .cmn => .cmnImm c rn rd rot imm8
    | .orr => .orrImm c s rn rd rot imm8
    | .mov => .movImm c s rn rd rot imm8
    | .bic => .bicImm c s rn rd rot imm8
    | .mvn => .mvnImm c s rn rd rot imm8
  | .regIs shamt sh rm =>
    match o with
    | .and => .andRegIs c s rn rd shamt sh rm
    | .eor => .eorRegIs c s rn rd shamt sh rm
    | .sub => .subRegIs c s rn rd shamt sh rm
    | .rsb => .rsbRegIs c s rn rd shamt sh rm
    | .add => .addRegIs c s rn rd shamt sh rm
    | .adc => .adcRegIs c s rn rd shamt sh rm
    | .sbc => .sbcRegIs c s rn rd shamt sh rm
    | .rsc => .rscRegIs c s rn rd shamt sh rm
    | .tst => .tstRegIs c rn rd shamt sh rm
    | .teq => .teqRegIs c rn rd shamt sh rm
    | .cmp => .cmpRegIs c rn rd shamt sh rm
    | .cmn => .cmnRegIs c rn rd shamt sh rm
    | .orr => .orrRegIs c s rn rd shamt sh rm
    | .mov => .movRegIs c s rn rd shamt sh rm
    | .bic => .bicRegIs c s rn rd shamt sh rm
    | .mvn => .mvnRegIs c s rn rd shamt sh rm
  | .regRs rs sh rm =>
    match o with
    | .and => .andRegRs c s rn rd rs sh rm
    | .eor => .eorRegRs c s rn rd rs sh rm
    | .sub => .subRegRs c s rn rd rs sh rm
    | .rsb => .rsbRegRs c s rn rd rs sh rm
    | .add => .addRegRs c s rn rd rs sh rm
    | .adc => .adcRegRs c s rn rd rs sh rm
    | .sbc => .sbcRegRs c s rn rd rs sh rm
    | .rsc => .rscRegRs c s rn rd rs sh rm
    | .tst => .tstRegRs c rn rd rs sh rm
    | .teq => .teqRegRs c rn rd rs sh rm
    | .cmp => .cmpRegRs c rn rd rs sh rm
    | .cmn => .cmnRegRs c rn rd rs sh rm
    | .orr => .orrRegRs c s rn rd rs sh rm
    | .mov => .movRegRs c s rn rd rs sh rm
    | .bic => .bicRegRs c s rn rd rs sh rm
    | .mvn => .mvnRegRs c s rn rd rs sh rm

/-- The operation writes Rd (42 R190). -/
def AluOp.writes : AluOp → Bool
  | .tst => false
  | .teq => false
  | .cmp => false
  | .cmn => false
  | _ => true

/-- The operation is logical (42 R190). -/
def AluOp.isLogical : AluOp → Bool
  | .and => true
  | .eor => true
  | .tst => true
  | .teq => true
  | .orr => true
  | .mov => true
  | .bic => true
  | .mvn => true
  | _ => false

/-- `op1` (42 R191, R196). -/
def DpForm.op1 (form : DpForm) (st : State) (rn : Reg) : Word :=
  match form with
  | .imm _ _ => st.reg rn
  | .regIs _ _ _ => st.reg rn
  | .regRs _ _ _ => if rn = 15 then st.reg 15 + 4 else st.reg rn

/-- The shifter operand (42 R193 to R196). -/
def DpForm.op2 (form : DpForm) (st : State) : Shifted :=
  match form with
  | .imm rot imm8 => immOperand rot imm8 st.cpsr.c
  | .regIs shamt sh rm => shiftImm sh shamt (st.reg rm) st.cpsr.c
  | .regRs rs sh rm =>
    shiftReg sh ((st.reg rs).setWidth 8) (if rm = 15 then st.reg 15 + 4 else st.reg rm) st.cpsr.c

/-! ## Single transfers (44 R240, R248, R250) -/

/-- Word and byte transfers. -/
inductive SdtOp where
  | ldr | ldrb | str | strb
  deriving DecidableEq, Repr

/-- Offset and pre-indexed (`pre`), post-indexed, and the T form. -/
inductive SdtMode where
  | pre (w : Bool)
  | post
  | user
  deriving DecidableEq, Repr

/-- The two offsets. -/
inductive SdtOffset where
  | imm (imm12 : BitVec 12)
  | reg (shamt : BitVec 5) (sh : Shift) (rm : Reg)
  deriving DecidableEq, Repr

/-- The instruction of a word or byte transfer. -/
def sdtInstr (op : SdtOp) (c : Cond) (mode : SdtMode) (u : Bool) (rn rd : Reg) (off : SdtOffset) : Instr :=
  match off with
  | .imm imm12 =>
    match op, mode with
    | .ldr, .pre w => .ldrImmPre c u w rn rd imm12
    | .ldr, .post => .ldrImmPost c u rn rd imm12
    | .ldr, .user => .ldrtImm c u rn rd imm12
    | .ldrb, .pre w => .ldrbImmPre c u w rn rd imm12
    | .ldrb, .post => .ldrbImmPost c u rn rd imm12
    | .ldrb, .user => .ldrbtImm c u rn rd imm12
    | .str, .pre w => .strImmPre c u w rn rd imm12
    | .str, .post => .strImmPost c u rn rd imm12
    | .str, .user => .strtImm c u rn rd imm12
    | .strb, .pre w => .strbImmPre c u w rn rd imm12
    | .strb, .post => .strbImmPost c u rn rd imm12
    | .strb, .user => .strbtImm c u rn rd imm12
  | .reg shamt sh rm =>
    match op, mode with
    | .ldr, .pre w => .ldrRegPre c u w rn rd shamt sh rm
    | .ldr, .post => .ldrRegPost c u rn rd shamt sh rm
    | .ldr, .user => .ldrtReg c u rn rd shamt sh rm
    | .ldrb, .pre w => .ldrbRegPre c u w rn rd shamt sh rm
    | .ldrb, .post => .ldrbRegPost c u rn rd shamt sh rm
    | .ldrb, .user => .ldrbtReg c u rn rd shamt sh rm
    | .str, .pre w => .strRegPre c u w rn rd shamt sh rm
    | .str, .post => .strRegPost c u rn rd shamt sh rm
    | .str, .user => .strtReg c u rn rd shamt sh rm
    | .strb, .pre w => .strbRegPre c u w rn rd shamt sh rm
    | .strb, .post => .strbRegPost c u rn rd shamt sh rm
    | .strb, .user => .strbtReg c u rn rd shamt sh rm

/-- P and W of a mode (44 R240, R248). -/
def SdtMode.p : SdtMode → Bool
  | .pre _ => true
  | .post => false
  | .user => false

/-- W of a mode (44 R240, R248). -/
def SdtMode.w : SdtMode → Bool
  | .pre w => w
  | .post => false
  | .user => true

/-- `off` (44 R240). -/
def SdtOffset.value (off : SdtOffset) (st : State) : Word :=
  match off with
  | .imm imm12 => imm12.setWidth 32
  | .reg shamt sh rm => (shiftImm sh shamt (st.reg rm) st.cpsr.c).value

/-- Halfword and signed transfers. -/
inductive HwOp where
  | ldrh | ldrsb | ldrsh | strh
  deriving DecidableEq, Repr

/-- The two offsets. -/
inductive HwOffset where
  | imm (immH immL : BitVec 4)
  | reg (rm : Reg)
  deriving DecidableEq, Repr

/-- The instruction of a halfword or signed transfer. -/
def hwInstr (op : HwOp) (c : Cond) (p u w : Bool) (rn rd : Reg) (off : HwOffset) : Instr :=
  match off with
  | .imm immH immL =>
    match op with
    | .ldrh => .ldrhImm c p u w rn rd immH immL
    | .ldrsb => .ldrsbImm c p u w rn rd immH immL
    | .ldrsh => .ldrshImm c p u w rn rd immH immL
    | .strh => .strhImm c p u w rn rd immH immL
  | .reg rm =>
    match op with
    | .ldrh => .ldrhReg c p u w rn rd rm
    | .ldrsb => .ldrsbReg c p u w rn rd rm
    | .ldrsh => .ldrshReg c p u w rn rd rm
    | .strh => .strhReg c p u w rn rd rm

/-- `off` (44 R250). -/
def HwOffset.value (off : HwOffset) (st : State) : Word :=
  match off with
  | .imm immH immL => (immH ++ immL : BitVec 8).setWidth 32
  | .reg rm => st.reg rm

/-! ## Multiplies (43) -/

/-- The four long multiplies. -/
inductive LongOp where
  | umull | umlal | smull | smlal
  deriving DecidableEq, Repr

/-- The instruction of a long multiply. -/
def longInstr (op : LongOp) (c : Cond) (s : Bool) (rdHi rdLo rs rm : Reg) : Instr :=
  match op with
  | .umull => .umull c s rdHi rdLo rs rm
  | .umlal => .umlal c s rdHi rdLo rs rm
  | .smull => .smull c s rdHi rdLo rs rm
  | .smlal => .smlal c s rdHi rdLo rs rm

/-! ## Narrow families (47, 48) -/

/-- The sixteen operations of format T4 (47 section 5). -/
inductive T4Op where
  | and | eor | lsl | lsr | asr | adc | sbc | ror | tst | neg | cmp | cmn | orr | mul | bic | mvn
  deriving DecidableEq, Repr

/-- The instruction of an operation of format T4. -/
def t4Instr (op : T4Op) (rs rd : LoReg) : Instr :=
  match op with
  | .and => .tAnd rs rd
  | .eor => .tEor rs rd
  | .lsl => .tLslReg rs rd
  | .lsr => .tLsrReg rs rd
  | .asr => .tAsrReg rs rd
  | .adc => .tAdc rs rd
  | .sbc => .tSbc rs rd
  | .ror => .tRor rs rd
  | .tst => .tTst rs rd
  | .neg => .tNeg rs rd
  | .cmp => .tCmpReg rs rd
  | .cmn => .tCmn rs rd
  | .orr => .tOrr rs rd
  | .mul => .tMul rs rd
  | .bic => .tBic rs rd
  | .mvn => .tMvn rs rd

/-- The operation writes Rd (47 section 5). -/
def T4Op.writes : T4Op → Bool
  | .tst => false
  | .cmp => false
  | .cmn => false
  | _ => true

/-- The narrow loads (48 R373 to R388), the PC-relative one aside. -/
inductive TLoad where
  | wordReg | byteReg | signedByteReg | halfReg | signedHalfReg
  | wordImm | byteImm | halfImm
  deriving DecidableEq, Repr

/-- The narrow stores (48 R373 to R388), the SP-relative one aside. -/
inductive TStore where
  | wordReg | byteReg | halfReg | wordImm | byteImm | halfImm
  deriving DecidableEq, Repr

/-- The narrow load with base `rb`; `ro` is the offset register, `imm5` the offset, of which the form uses one. -/
def tLoadInstr (op : TLoad) (ro : LoReg) (imm5 : BitVec 5) (rb rd : LoReg) : Instr :=
  match op with
  | .wordReg => .tLdrReg ro rb rd
  | .byteReg => .tLdrbReg ro rb rd
  | .signedByteReg => .tLdsbReg ro rb rd
  | .halfReg => .tLdrhReg ro rb rd
  | .signedHalfReg => .tLdshReg ro rb rd
  | .wordImm => .tLdrImm imm5 rb rd
  | .byteImm => .tLdrbImm imm5 rb rd
  | .halfImm => .tLdrhImm imm5 rb rd

/-- The address of a narrow load (48 R371, 30_encoding R127). -/
def TLoad.address (op : TLoad) (ro : LoReg) (imm5 : BitVec 5) (rb : LoReg) (st : State) : Word :=
  match op with
  | .wordReg => st.reg (low rb) + st.reg (low ro)
  | .byteReg => st.reg (low rb) + st.reg (low ro)
  | .signedByteReg => st.reg (low rb) + st.reg (low ro)
  | .halfReg => st.reg (low rb) + st.reg (low ro)
  | .signedHalfReg => st.reg (low rb) + st.reg (low ro)
  | .wordImm => st.reg (low rb) + imm5.setWidth 32 * 4
  | .byteImm => st.reg (low rb) + imm5.setWidth 32
  | .halfImm => st.reg (low rb) + imm5.setWidth 32 * 2

/-- The narrow store with base `rb`. -/
def tStoreInstr (op : TStore) (ro : LoReg) (imm5 : BitVec 5) (rb rd : LoReg) : Instr :=
  match op with
  | .wordReg => .tStrReg ro rb rd
  | .byteReg => .tStrbReg ro rb rd
  | .halfReg => .tStrhReg ro rb rd
  | .wordImm => .tStrImm imm5 rb rd
  | .byteImm => .tStrbImm imm5 rb rd
  | .halfImm => .tStrhImm imm5 rb rd

/-- The address of a narrow store (48 R371, 30_encoding R127). -/
def TStore.address (op : TStore) (ro : LoReg) (imm5 : BitVec 5) (rb : LoReg) (st : State) : Word :=
  match op with
  | .wordReg => st.reg (low rb) + st.reg (low ro)
  | .byteReg => st.reg (low rb) + st.reg (low ro)
  | .halfReg => st.reg (low rb) + st.reg (low ro)
  | .wordImm => st.reg (low rb) + imm5.setWidth 32 * 4
  | .byteImm => st.reg (low rb) + imm5.setWidth 32
  | .halfImm => st.reg (low rb) + imm5.setWidth 32 * 2

/-- The bytes a narrow store writes. -/
def TStore.bytes : TStore → Nat
  | .wordReg => 4
  | .byteReg => 1
  | .halfReg => 2
  | .wordImm => 4
  | .byteImm => 1
  | .halfImm => 2

/-- The conditional branch of a condition (48 R405); none for 1110 and 1111, which are no conditional branches. -/
def branchInstr (c : Cond) (imm8 : BitVec 8) : Option Instr :=
  match c with
  | .eq => some (.tBeq imm8)
  | .ne => some (.tBne imm8)
  | .cs => some (.tBcs imm8)
  | .cc => some (.tBcc imm8)
  | .mi => some (.tBmi imm8)
  | .pl => some (.tBpl imm8)
  | .vs => some (.tBvs imm8)
  | .vc => some (.tBvc imm8)
  | .hi => some (.tBhi imm8)
  | .ls => some (.tBls imm8)
  | .ge => some (.tBge imm8)
  | .lt => some (.tBlt imm8)
  | .gt => some (.tBgt imm8)
  | .le => some (.tBle imm8)
  | .al => none
  | .nv => none

/-! ## Results as numbers (42 R190, R197) -/

/-- 1 for true, as a word. -/
def bit (b : Bool) : Word := (BitVec.ofBool b).setWidth 32

/-- The result column of 42 R190. -/
def dpResult (o : AluOp) (op1 op2 : Word) (c : Bool) : Word :=
  match o with
  | .and => op1 &&& op2
  | .eor => op1 ^^^ op2
  | .sub => op1 - op2
  | .rsb => op2 - op1
  | .add => op1 + op2
  | .adc => op1 + op2 + bit c
  | .sbc => op1 - op2 - bit (!c)
  | .rsc => op2 - op1 - bit (!c)
  | .tst => op1 &&& op2
  | .teq => op1 ^^^ op2
  | .cmp => op1 - op2
  | .cmn => op1 + op2
  | .orr => op1 ||| op2
  | .mov => op2
  | .bic => op1 &&& ~~~op2
  | .mvn => ~~~op2

/-- C: the shifter carry for a logical operation, the carry out of an addition, NOT borrow of a subtraction
(10_state R36, 42 R197). -/
def dpCarry (o : AluOp) (op1 op2 : Word) (c sc : Bool) : Bool :=
  match o with
  | .sub => op2.toNat ≤ op1.toNat
  | .cmp => op2.toNat ≤ op1.toNat
  | .rsb => op1.toNat ≤ op2.toNat
  | .add => 2 ^ 32 ≤ op1.toNat + op2.toNat
  | .cmn => 2 ^ 32 ≤ op1.toNat + op2.toNat
  | .adc => 2 ^ 32 ≤ op1.toNat + op2.toNat + c.toNat
  | .sbc => op2.toNat + (!c).toNat ≤ op1.toNat
  | .rsc => op1.toNat + (!c).toNat ≤ op2.toNat
  | _ => sc

/-- The exact signed result of an arithmetic operation. -/
def dpSigned (o : AluOp) (op1 op2 : Word) (c : Bool) : Int :=
  match o with
  | .sub => op1.toInt - op2.toInt
  | .cmp => op1.toInt - op2.toInt
  | .rsb => op2.toInt - op1.toInt
  | .add => op1.toInt + op2.toInt
  | .cmn => op1.toInt + op2.toInt
  | .adc => op1.toInt + op2.toInt + c.toNat
  | .sbc => op1.toInt - op2.toInt - (!c).toNat
  | .rsc => op2.toInt - op1.toInt - (!c).toNat
  | _ => 0

/-- V: kept by a logical operation, else the signed result does not fit 32 bits (10_state R36, 42 R197). -/
def dpOverflow (o : AluOp) (op1 op2 : Word) (c v : Bool) : Bool :=
  if o.isLogical then v else dpSigned o op1 op2 c < -2 ^ 31 || 2 ^ 31 ≤ dpSigned o op1 op2 c

/-- The status word after flags are set from the result `r`. -/
def Flagged (st t : State) (r : Word) (c v : Bool) : Prop :=
  t.cpsr = { st.cpsr with n := r.getLsbD 31, z := r == 0, c := c, v := v }

/-- The flags an operation sets, by the tables of 42 R190 and R197. -/
def DpFlagged (o : AluOp) (st t : State) (op1 op2 : Word) (sc : Bool) : Prop :=
  Flagged st t (dpResult o op1 op2 st.cpsr.c) (dpCarry o op1 op2 st.cpsr.c sc)
    (dpOverflow o op1 op2 st.cpsr.c st.cpsr.v)

/-! ## What a load gives and a store leaves -/

/-- Loads and stores by what they move. -/
inductive LoadKind where
  | word | byte | signedByte | half | signedHalf
  deriving DecidableEq, Repr

/-- The address reaches a region whose storage a load reads: the byte at the address is the cell `cellOf p a`. -/
def Readable (p : Params) (a : Word) : Prop := ∃ bank off r, target p a = .node bank off r ∧ r.load = .cells

/-- The bus address of a load (20_memory R91); a signed halfword load at an odd address is a byte load (44 R256). -/
def LoadKind.busAddress (k : LoadKind) (ea : Word) : Word :=
  match k with
  | .word => align4 ea
  | .byte => ea
  | .signedByte => ea
  | .half => align2 ea
  | .signedHalf => ea

/-- `v` is what a load of the kind gives at `ea` from the memory of `s` (44 R242 to R256). -/
def LoadsAs (k : LoadKind) (s : State) (ea v : Word) : Prop :=
  match k with
  | .word =>
    ∀ j, j < 4 → v.extractLsb' (8 * j) 8 = Memory.read s.mem (cellOf s.params (align4 ea) + (ea.toNat + j) % 4)
  | .byte => v.toNat = (Memory.read s.mem (cellOf s.params ea)).toNat
  | .signedByte => v.toInt = (Memory.read s.mem (cellOf s.params ea)).toInt
  | .half =>
    if ea.getLsbD 0 then
      v = (Memory.read s.mem (cellOf s.params (align2 ea)) ++ 0#16 ++
        Memory.read s.mem (cellOf s.params (align2 ea) + 1) : BitVec 32)
    else
      v.toNat = (Memory.read s.mem (cellOf s.params ea)).toNat +
        256 * (Memory.read s.mem (cellOf s.params ea + 1)).toNat
  | .signedHalf =>
    if ea.getLsbD 0 then v.toInt = (Memory.read s.mem (cellOf s.params ea)).toInt
    else
      v.toInt =
        (Memory.read s.mem (cellOf s.params ea + 1) ++ Memory.read s.mem (cellOf s.params ea) : BitVec 16).toInt

/-- The bus load of the kind at `ea` fails (20_memory R100, 44 R256). -/
def LoadKind.fails (k : LoadKind) (st : State) (ea : Word) : Prop :=
  match k with
  | .word => st.load32 (align4 ea) = none
  | .byte => st.load8 ea = none
  | .signedByte => st.load8 ea = none
  | .half => st.load16 (align2 ea) = none
  | .signedHalf => if ea.getLsbD 0 then st.load8 ea = none else st.load16 ea = none

/-- The bus store of the low `bytes` (1, 2 or 4) bytes of `v` at `ea` fails (20_memory R101). -/
def storeFails (bytes : Nat) (st : State) (ea v : Word) : Prop :=
  if bytes = 4 then st.store32 (align4 ea) v = none
  else if bytes = 2 then st.store16 (align2 ea) (v.setWidth 16) = none
  else st.store8 ea (v.setWidth 8) = none

/-- A halfword load at an odd address (44 R256). -/
def OddHalf (k : LoadKind) (ea : Word) : Prop := (k = .half ∨ k = .signedHalf) ∧ ea.getLsbD 0 = true

/-- After: the `n` bytes from cell `lo` on are the low bytes of `v`, every other byte is as before. -/
def Stored (lo n : Nat) (v : Word) (s t : State) : Prop :=
  (∀ j, j < n → Memory.read t.mem (lo + j) = v.extractLsb' (8 * j) 8) ∧ MemKeptOutside lo n s t

/-- The kind of a word or byte load. -/
def SdtOp.kind : SdtOp → Option LoadKind
  | .ldr => some .word
  | .ldrb => some .byte
  | .str => none
  | .strb => none

/-- The kind of a halfword or signed load. -/
def HwOp.kind : HwOp → Option LoadKind
  | .ldrh => some .half
  | .ldrsb => some .signedByte
  | .ldrsh => some .signedHalf
  | .strh => none

/-- The kind of a narrow load. -/
def TLoad.kind : TLoad → LoadKind
  | .wordReg => .word
  | .byteReg => .byte
  | .signedByteReg => .signedByte
  | .halfReg => .half
  | .signedHalfReg => .signedHalf
  | .wordImm => .word
  | .byteImm => .byte
  | .halfImm => .half

/-- The bus address of a store of 1, 2 or 4 bytes (20_memory R91). -/
def storeAddress (bytes : Nat) (ea : Word) : Word :=
  if bytes = 4 then align4 ea else if bytes = 2 then align2 ea else ea

/-! ## Block transfers (45 R270) -/

/-- The bus address of the `k`-th register of a block transfer (45 R270, R272). -/
def slot (start : Word) (k : Nat) : Word := align4 (start + BitVec.ofNat 32 (4 * k))

/-- The word in memory at the `k`-th place of a block transfer. -/
def slotWord (s : State) (start : Word) (k : Nat) : Word := Memory.read32 s.mem (cellOf s.params (slot start k))

/-- The number of registers of a list. -/
def listCount (rlist : BitVec 16) : Nat := (regList rlist).length

/-- The first `n` places of a block transfer are in memory. -/
def SlotsReadable (p : Params) (start : Word) (n : Nat) : Prop := ∀ k, k < n → Readable p (slot start k)

/-- The first `n` places of a block transfer are in memory that stores. -/
def SlotsWritable (p : Params) (start : Word) (n : Nat) : Prop := ∀ k, k < n → InMemory p (slot start k)

/-- The first `n` registers of the list, r15 aside, hold the words of their places in the memory of `s`; `reg` reads a
register. -/
def BlockLoaded (regs : List Reg) (start : Word) (n : Nat) (s : State) (reg : Reg → Word) : Prop :=
  ∀ k r, k < n → regs[k]? = some r → r ≠ 15 → reg r = slotWord s start k

/-- The first `n` places hold the words `vs` (where a mirror makes two places one, the later word), every byte of memory
outside them is as before. -/
def BlockStored (vs : List Word) (start : Word) (n : Nat) (s t : State) : Prop :=
  (∀ k v, k < n → vs[k]? = some v →
    (∀ j, k < j → j < n → cellOf s.params (slot start j) ≠ cellOf s.params (slot start k)) →
    slotWord t start k = v) ∧
    ∀ c, (∀ k, k < n → c < cellOf s.params (slot start k) ∨ cellOf s.params (slot start k) + 4 ≤ c) →
      Memory.read t.mem c = Memory.read s.mem c

/-- The words STM stores (45 R274, R275): r15 is A + 12; the base, where it is written back and is not the lowest
register, is the written-back base. -/
def storedWords (st : State) (read : Reg → Word) (u w : Bool) (rn : Reg) (rlist : BitVec 16) : List Word :=
  (regList rlist).map fun r =>
    if r = 15 then st.reg 15 + 4
    else if w = true ∧ r = rn ∧ (regList rlist).head? ≠ some rn then blockFinal u (st.reg rn) rlist
    else read r

/-! ## Expected values of format T4 (47 section 5) -/

/-- The result: `a` is Rd, `b` is Rs. -/
def T4Op.result (op : T4Op) (a b : Word) (c : Bool) : Word :=
  match op with
  | .and => a &&& b
  | .eor => a ^^^ b
  | .lsl => (shiftReg .lsl (b.setWidth 8) a c).value
  | .lsr => (shiftReg .lsr (b.setWidth 8) a c).value
  | .asr => (shiftReg .asr (b.setWidth 8) a c).value
  | .adc => a + b + bit c
  | .sbc => a - b - bit (!c)
  | .ror => (shiftReg .ror (b.setWidth 8) a c).value
  | .tst => a &&& b
  | .neg => 0 - b
  | .cmp => a - b
  | .cmn => a + b
  | .orr => a ||| b
  | .mul => BitVec.ofNat 32 (a.toNat * b.toNat)
  | .bic => a &&& ~~~b
  | .mvn => ~~~b

/-- C after the operation; none where it is a free value (MUL). -/
def T4Op.carry (op : T4Op) (a b : Word) (c : Bool) : Option Bool :=
  match op with
  | .and => some c
  | .eor => some c
  | .lsl => some (shiftReg .lsl (b.setWidth 8) a c).carry
  | .lsr => some (shiftReg .lsr (b.setWidth 8) a c).carry
  | .asr => some (shiftReg .asr (b.setWidth 8) a c).carry
  | .adc => some (dpCarry .adc a b c c)
  | .sbc => some (dpCarry .sbc a b c c)
  | .ror => some (shiftReg .ror (b.setWidth 8) a c).carry
  | .tst => some c
  | .neg => some (dpCarry .sub 0 b c c)
  | .cmp => some (dpCarry .sub a b c c)
  | .cmn => some (dpCarry .add a b c c)
  | .orr => some c
  | .mul => none
  | .bic => some c
  | .mvn => some c

/-- V after the operation. -/
def T4Op.overflow (op : T4Op) (a b : Word) (c v : Bool) : Bool :=
  match op with
  | .adc => dpOverflow .adc a b c v
  | .sbc => dpOverflow .sbc a b c v
  | .neg => dpOverflow .sub 0 b c v
  | .cmp => dpOverflow .sub a b c v
  | .cmn => dpOverflow .add a b c v
  | _ => v

/-! ## The registers of the core on the bus (20_memory R85, 60_exceptions section 5) -/

/-- The state with other devices. -/
def State.withDev (s : State) (d : Devices) : State := { s with dev := d }

/-- The address belongs to a register block of the core (20_memory R85). -/
def CoreRegister (a : Word) : Prop :=
  (0x040000B0 ≤ a.toNat ∧ a.toNat < 0x040000E0) ∨ (0x04000100 ≤ a.toNat ∧ a.toNat < 0x04000110) ∨
    (0x04000200 ≤ a.toNat ∧ a.toNat < 0x0400020C) ∨ a.toNat = 0x04000300 ∨ a.toNat = 0x04000301

/-- The address of byte `k` of the registers of DMA channel `ch`: SAD at 0, DAD at 4, CNT at 8, CTRL at 10
(10_state R51). -/
def dmaAddress (ch : Fin 4) (k : Nat) : Word := 0x040000B0 + BitVec.ofNat 32 (12 * ch.val + k)

/-- The address of byte `k` of the registers of timer `t`: TMCNT_L at 0, TMCNT_H at 2 (10_state R58). -/
def timerAddress (t : Fin 4) (k : Nat) : Word := 0x04000100 + BitVec.ofNat 32 (4 * t.val + k)

/-- The value with its byte `k` replaced (20_memory R93). -/
def withByte {w : Nat} (x : BitVec w) (k : Nat) (b : Byte) : BitVec w :=
  (x &&& ~~~((0xFF : Byte).setWidth w <<< (8 * k))) ||| (b.setWidth w <<< (8 * k))

/-- `count(ch)` (60 R472). -/
def dmaCount (p : Params) (ch : Fin 4) (c : DmaChannel) : Nat :=
  if c.cnt &&& p.dmaCountMask[ch] = 0 then p.dmaCountZero[ch] else (c.cnt &&& p.dmaCountMask[ch]).toNat

/-- A side's address after `k` units of `u` bytes from `a` on (60 R476). -/
def AddrMode.at (m : AddrMode) (a : Word) (u k : Nat) : Word :=
  match m with
  | .increment => a + BitVec.ofNat 32 (k * u)
  | .decrement => a - BitVec.ofNat 32 (k * u)
  | .fixed => a
  | .reload => a + BitVec.ofNat 32 (k * u)

/-- The channel after a signal that arms it where it is enabled and `match'` holds (60 R474). -/
def DmaChannel.armedIf (c : DmaChannel) (match' : Prop) [Decidable match'] : DmaChannel :=
  if c.ctrl.enable = true ∧ match' then { c with active := true } else c

/-! ## The reserved encodings (30_encoding R137, R138) -/

/-- The word is MRS, MSR or BX as the format tables of 30_encoding R114 show them. -/
def isStatusOrBx (w : Word) : Bool :=
  (slice 27 23 w == 0b00010 && slice 21 20 w == 0 && slice 19 16 w == 0b1111 && slice 11 0 w == 0) ||
  (slice 27 23 w == 0b00010 && slice 21 20 w == 0b10 && slice 15 12 w == 0b1111 && slice 11 4 w == 0) ||
  (slice 27 23 w == 0b00110 && slice 21 20 w == 0b10 && slice 15 12 w == 0b1111) ||
  slice 27 4 w == 0x12FFF1

/-- The word is MUL, MLA, a long multiply or a swap, its bits 7:4 being 1001. -/
def isMultiplyOrSwap (w : Word) : Bool :=
  slice 27 22 w == 0 || slice 27 23 w == 1 ||
    (slice 27 23 w == 0b00010 && slice 21 20 w == 0 && slice 11 8 w == 0)

/-- The four holes (a) to (d) of 30_encoding R137. -/
def reservedWide (w : Word) : Bool :=
  (((slice 27 23 w == 0b00010 && slice 20 20 w == 0 && !(slice 7 7 w == 1 && slice 4 4 w == 1)) ||
      (slice 27 23 w == 0b00110 && slice 20 20 w == 0)) && !isStatusOrBx w) ||
  (slice 27 25 w == 0 && slice 7 4 w == 0b1001 && !isMultiplyOrSwap w) ||
  (slice 27 25 w == 0 && slice 7 7 w == 1 && slice 4 4 w == 1 && slice 20 20 w == 0 && 2 ≤ slice 6 5 w) ||
  (slice 27 25 w == 0 && slice 22 22 w == 0 && slice 7 7 w == 1 && slice 4 4 w == 1 && slice 6 5 w != 0 &&
    slice 11 8 w != 0)

/-- The holes of 30_encoding R138. -/
def reservedNarrow (h : Half) : Bool :=
  slice 15 8 h == 0b10110001 || slice 15 8 h == 0b10110010 || slice 15 8 h == 0b10110011 ||
  slice 15 9 h == 0b1011011 || slice 15 9 h == 0b1011100 || slice 15 9 h == 0b1011101 ||
  slice 15 9 h == 0b1011111 || slice 15 8 h == 0b11011110 || slice 15 11 h == 0b11101 ||
  slice 15 7 h == 0b010001111

end Sys2Proof.Machine
end

