-- ==== Sys2Proof/Certificates/Slice0/Obligations.lean ====
section
/-! DEFINITION. What is claimed of the machine, one definition per claim, in the order of the spec's files. -/

open Sys2Proof
open Sys2Proof.Machine

/-! ## Encoding (30_encoding) -/

/-- A code decodes to an instruction exactly where it is that instruction's encoding: decoding an encoded instruction
gives it back, and no two codes share an instruction (30_encoding R114, R125; every ignored field is kept, R139). -/
def Obligations.DecodeAndEncodeAgree : Prop :=
  ∀ (k : Code) (i : Instr), decodeCode k = some i ↔ encode i = k

/-- 30_encoding R137: the wide words that match no row are exactly the four listed holes, and a step that fetches one
whose condition passes raises Undefined-instruction. -/
def Obligations.ReservedWideWords : Prop :=
  ∀ w : Word, (decodeWide w = none ↔ reservedWide w = true) ∧
    ∀ st : State, reservedWide w = true → Cond.holds (condAt 28 w) st.cpsr = true →
      st.runWide w = .next (st.enter .undefined)

/-- 30_encoding R138: the narrow halfwords that match no row are exactly the listed holes, and a step that fetches one
raises Undefined-instruction. -/
def Obligations.ReservedNarrowHalfwords : Prop :=
  ∀ h : Half, (decodeNarrow h = none ↔ reservedNarrow h = true) ∧
    ∀ st : State, reservedNarrow h = true → st.runNarrow h = .next (st.enter .undefined)

/-- A few words written out from the format tables of 30_encoding decode to the instructions the spec's examples say. -/
def Obligations.SpecWordsDecode : Prop :=
  decodeWide 0xE0810392 = some (.umull .al false 1 0 3 2) ∧
  decodeWide 0xE2511001 = some (.subImm .al true 1 1 0 1) ∧
  decodeWide 0xE5210004 = some (.strImmPre .al false true 1 0 4) ∧
  decodeWide 0xE8FD800F = some (.ldmCpsr .al false true true 13 0x000F) ∧
  decodeWide 0xE328F20F = some (.msrImmCpsr .al 8 2 0x0F) ∧
  decodeWide 0xEB000019 = some (.bl .al 25) ∧
  decodeNarrow 0x1DC8 = some (.tAddImm3 7 1 0) ∧
  decodeNarrow 0x46F7 = some (.tMovHi true true 6 7) ∧
  decodeNarrow 0xB510 = some (.tPush true 0x10) ∧
  decodeNarrow 0xF87E = some (.tBlLo 0x7E)

/-! ## The CPU step (40_cpu_step_and_conditions) -/

/-- A step runs the decoded instruction: with no DMA channel active, the machine in Run and no exception pending, where
the bytes at the PC decode to `i`, the step is `exec i` in the prepared state, then the PC's advance or refill, the
timers and the external phase (40 R152, R156, R162, 60 R500). -/
def Obligations.StepRunsDecodedInstruction : Prop :=
  ∀ (s : State) (i : Instr) (a : Word),
    s.dev.activeChannel = none → s.dev.power = .run → s.prepared.asyncException = none →
    a = s.prepared.currentInstruction → Readable s.params a →
    decode s.cpsr.t
        ((List.range (if s.cpsr.t then 2 else 4)).map fun k => Memory.read s.mem (cellOf s.params a + k)) = .ok (i, []) →
    step s = andThen (exec i s.prepared.drawn) fun t =>
      (t.finishStep (if s.cpsr.t then 2 else 4)).timerPhase.externalPhase

/-- 40 R157 and R158: the PC after a step. Without a redirect it moves on by the width of the fetched instruction; after
a redirect to a target the next step fetches at the target, aligned to the width flag that then holds. -/
def Obligations.PcAfterStep : Prop :=
  ∀ (t : State) (w : Word),
    (t.redirected = false → (t.finishStep w).reg 15 = t.reg 15 + w) ∧
    (t.redirected = true →
      (t.finishStep w).reg 15 = t.reg 15 + (if t.cpsr.t then 4 else 8) ∧
      (t.finishStep w).prepared.currentInstruction =
        (if t.cpsr.t then t.reg 15 &&& 0xFFFFFFFE else t.reg 15 &&& 0xFFFFFFFC)) ∧
    (t.finishStep w).redirected = false ∧ RegsKeptBut [] t (t.finishStep w) ∧
    (t.finishStep w).cpsr = t.cpsr ∧ SystemKept t (t.finishStep w) ∧ MemKept t (t.finishStep w)

/-- 40 R154 and 30_encoding R135: a wide instruction, or a reserved wide word, whose condition fails changes nothing and
raises nothing; the condition 1111 always fails. -/
def Obligations.SkippedChangesNothing : Prop :=
  (∀ (i : Instr) (c : Cond) (st : State), condOf i = some c → Cond.holds c st.cpsr = false →
    exec i st = .next st) ∧
  (∀ (w : Word) (st : State), Cond.holds (condAt 28 w) st.cpsr = false → st.runWide w = .next st) ∧
  ∀ p : Status, Cond.holds .nv p = false

/-- 40 R160 and R161: the sixteen conditions by their codes, which look at N, Z, C and V alone. -/
def Obligations.ConditionTable : Prop :=
  (∀ w : Word, condAt 28 w = Cond.ofCode (w.toNat / 2 ^ 28)) ∧
  (List.range 16).map Cond.ofCode =
    [.eq, .ne, .cs, .cc, .mi, .pl, .vs, .vc, .hi, .ls, .ge, .lt, .gt, .le, .al, .nv] ∧
  (∀ p : Status,
    (Cond.holds .eq p = true ↔ p.z = true) ∧ (Cond.holds .ne p = true ↔ p.z = false) ∧
    (Cond.holds .cs p = true ↔ p.c = true) ∧ (Cond.holds .cc p = true ↔ p.c = false) ∧
    (Cond.holds .mi p = true ↔ p.n = true) ∧ (Cond.holds .pl p = true ↔ p.n = false) ∧
    (Cond.holds .vs p = true ↔ p.v = true) ∧ (Cond.holds .vc p = true ↔ p.v = false) ∧
    (Cond.holds .hi p = true ↔ p.c = true ∧ p.z = false) ∧ (Cond.holds .ls p = true ↔ p.c = false ∨ p.z = true) ∧
    (Cond.holds .ge p = true ↔ p.n = p.v) ∧ (Cond.holds .lt p = true ↔ p.n ≠ p.v) ∧
    (Cond.holds .gt p = true ↔ p.z = false ∧ p.n = p.v) ∧ (Cond.holds .le p = true ↔ p.z = true ∨ p.n ≠ p.v) ∧
    Cond.holds .al p = true ∧ Cond.holds .nv p = false) ∧
  ∀ (c : Cond) (p q : Status), p.n = q.n → p.z = q.z → p.c = q.c → p.v = q.v → Cond.holds c p = Cond.holds c q

/-- 60 R440, R443 and 40 R153: a CPU step takes Reset before FIQ before IRQ, each before any fetch, and where the fetch
fails it takes the Prefetch Abort and runs nothing. -/
def Obligations.StepTakesExceptions : Prop :=
  ∀ s : State,
    (s.dev.rstPending = true → s.cpuStep = .next (s.prepared.enterReset.finishStep (widthOf s.cpsr.t))) ∧
    (s.dev.rstPending = false → s.dev.fiqPending = true → s.cpsr.f = false →
      s.cpuStep = .next ((s.prepared.enter .fiq).finishStep (widthOf s.cpsr.t))) ∧
    (s.dev.rstPending = false → ¬(s.dev.fiqPending = true ∧ s.cpsr.f = false) →
      s.dev.enabled &&& s.dev.pending ≠ 0 → s.dev.master = true → s.cpsr.i = false →
      s.cpuStep = .next ((s.prepared.enter .irq).finishStep (widthOf s.cpsr.t))) ∧
    (s.dev.rstPending = false → ¬(s.dev.fiqPending = true ∧ s.cpsr.f = false) →
      ¬(s.dev.enabled &&& s.dev.pending ≠ 0 ∧ s.dev.master = true ∧ s.cpsr.i = false) →
      (if s.cpsr.t then s.load16 s.prepared.currentInstruction = none
        else s.load32 s.prepared.currentInstruction = none) →
      s.cpuStep = .next ((s.prepared.drawn.enter .prefetchAbort).finishStep (widthOf s.cpsr.t)))

/-- 60 R500, R501, R502 and R479: the lowest active DMA channel has the tick in every power state; without one the CPU
has it in Run, and in Halt and Stop nothing runs. -/
def Obligations.AgentOfTick : Prop :=
  ∀ s : State,
    (∀ ch : Fin 4, (s.dev.dma[ch]).active = true → (∀ j : Fin 4, j < ch → (s.dev.dma[j]).active = false) →
      s.agentStep = .next (s.dmaStep ch)) ∧
    ((∀ ch : Fin 4, (s.dev.dma[ch]).active = false) →
      (s.dev.power = .run → s.agentStep = s.cpuStep) ∧ (s.dev.power ≠ .run → s.agentStep = .next s))

/-! ## Status and exceptions (10_state, 60_exceptions) -/

/-- 60 R421, R423 and R425: what an exception entry writes and what it keeps. -/
def Obligations.ExceptionEntry : Prop :=
  ∀ (s : State) (e : Exc),
    (s.enter e).cpsr.mode =
      (match e with
        | .reset => .supervisor
        | .undefined => .undefined
        | .swi => .supervisor
        | .prefetchAbort => .abort
        | .dataAbort => .abort
        | .irq => .irq
        | .fiq => .fiq) ∧
    (s.enter e).reg 15 =
      (match e with
        | .reset => 0x00
        | .undefined => 0x04
        | .swi => 0x08
        | .prefetchAbort => 0x0C
        | .dataAbort => 0x10
        | .irq => 0x18
        | .fiq => 0x1C) ∧
    (s.enter e).redirected = true ∧
    (s.enter e).cpsr.t = false ∧ (s.enter e).cpsr.i = true ∧
    (s.enter e).cpsr.f = (if e = .reset ∨ e = .fiq then true else s.cpsr.f) ∧
    (s.enter e).cpsr.n = s.cpsr.n ∧ (s.enter e).cpsr.z = s.cpsr.z ∧ (s.enter e).cpsr.c = s.cpsr.c ∧
    (s.enter e).cpsr.v = s.cpsr.v ∧
    (e ≠ .reset → (s.enter e).spsr = s.cpsr.toSaved) ∧
    (s.enter e).reg 14 = s.linkValue e ∧
    (∀ r : Reg, r.toNat < 8 → (s.enter e).reg r = s.reg r) ∧
    (s.cpsr.mode.bank ≠ e.mode.bank →
      (s.enter e).banks.spLr s.cpsr.mode.bank = { r13 := s.reg 13, r14 := s.reg 14 } ∧
      (s.cpsr.mode.bank ≠ .usr → (s.enter e).banks.spsr s.cpsr.mode.bank = some s.spsr) ∧
      (s.enter e).reg 13 = (s.banks.spLr e.mode.bank).r13 ∧
      (s.cpsr.mode.bank = .fiq → (s.enter e).banks.fiqHi = s.liveHi ∧ (s.enter e).liveHi = s.banks.usrHi) ∧
      (e = .fiq → (s.enter e).banks.usrHi = s.liveHi ∧ (s.enter e).liveHi = s.banks.fiqHi) ∧
      (s.cpsr.mode.bank ≠ .fiq → e ≠ .fiq → (s.enter e).liveHi = s.liveHi)) ∧
    (s.cpsr.mode.bank = e.mode.bank →
      (s.enter e).banks = s.banks ∧ (s.enter e).reg 13 = s.reg 13 ∧ (s.enter e).liveHi = s.liveHi) ∧
    (s.enter e).dev = s.dev ∧ (s.enter e).mem = s.mem ∧ (s.enter e).nodeStores = s.nodeStores

/-- 60 R422: the link values, A being the address of the instruction and w its width: A for a Data Abort, A + w for
every other exception that has one, each with its bias `P_LR_BIAS`. -/
def Obligations.LinkValues : Prop :=
  ∀ (s : State) (a w : Word), a = s.reg 15 - (if s.cpsr.t then 4 else 8) → w = (if s.cpsr.t then 2 else 4) →
    s.linkValue .dataAbort = a + Bias.at s.params.lrBias.dataAbort s.cpsr.t ∧
    s.linkValue .prefetchAbort = a + w + Bias.at s.params.lrBias.prefetchAbort s.cpsr.t ∧
    s.linkValue .swi = a + w + Bias.at s.params.lrBias.swi s.cpsr.t ∧
    s.linkValue .undefined = a + w + Bias.at s.params.lrBias.undefined s.cpsr.t ∧
    s.linkValue .irq = a + w + Bias.at s.params.lrBias.irq s.cpsr.t ∧
    s.linkValue .fiq = a + w + Bias.at s.params.lrBias.fiq s.cpsr.t

/-- 60 R436 with R425: copying SPSR back to CPSR right after an entry gives back the whole status word and every
register of the interrupted mode; only where that mode is the handler's own is its r14 lost. -/
def Obligations.EntryThenReturn : Prop :=
  ∀ (s : State) (e : Exc), e ≠ .reset →
    (s.enter e).spsr.toStatus = some s.cpsr ∧
    ((s.enter e).loadStatus s.cpsr).cpsr = s.cpsr ∧
    (∀ r : Reg, r ≠ 15 → (s.cpsr.mode.bank = e.mode.bank → r ≠ 14) →
      ((s.enter e).loadStatus s.cpsr).reg r = s.reg r) ∧
    (s.cpsr.mode.bank ≠ e.mode.bank → s.cpsr.mode.hasSpsr = true →
      ((s.enter e).loadStatus s.cpsr).spsr = s.spsr)

/-- 10_state R41: `load_status` to any mode and back restores every register, the SPSR and the status word. -/
def Obligations.LoadStatusRoundTrip : Prop :=
  ∀ (s : State) (p : Status),
    ((s.loadStatus p).loadStatus s.cpsr).cpsr = s.cpsr ∧
    (∀ r : Reg, ((s.loadStatus p).loadStatus s.cpsr).reg r = s.reg r) ∧
    (s.cpsr.mode.hasSpsr = true → ((s.loadStatus p).loadStatus s.cpsr).spsr = s.spsr)

/-- 10_state R40: `load_status` saves the outgoing bank, then loads the incoming one, then installs the word; between
modes of one bank it only installs the word. -/
def Obligations.LoadStatusMovesBanks : Prop :=
  ∀ (s : State) (new : Status),
    (s.loadStatus new).cpsr = new ∧
    (s.cpsr.mode.bank = new.mode.bank →
      (∀ r : Reg, (s.loadStatus new).reg r = s.reg r) ∧ (s.loadStatus new).banks = s.banks ∧
      (s.loadStatus new).spsr = s.spsr) ∧
    (s.cpsr.mode.bank ≠ new.mode.bank →
      (s.loadStatus new).banks.spLr s.cpsr.mode.bank = { r13 := s.reg 13, r14 := s.reg 14 } ∧
      (∀ b, b ≠ s.cpsr.mode.bank → (s.loadStatus new).banks.spLr b = s.banks.spLr b) ∧
      (s.cpsr.mode.bank ≠ .usr → (s.loadStatus new).banks.spsr s.cpsr.mode.bank = some s.spsr) ∧
      (∀ b, b ≠ s.cpsr.mode.bank → (s.loadStatus new).banks.spsr b = s.banks.spsr b) ∧
      (s.cpsr.mode.bank = .fiq →
        (s.loadStatus new).banks.fiqHi = s.liveHi ∧ (s.loadStatus new).liveHi = s.banks.usrHi) ∧
      (new.mode.bank = .fiq →
        (s.loadStatus new).banks.usrHi = s.liveHi ∧ (s.loadStatus new).liveHi = s.banks.fiqHi) ∧
      (s.cpsr.mode.bank ≠ .fiq → new.mode.bank ≠ .fiq → (s.loadStatus new).liveHi = s.liveHi) ∧
      (s.loadStatus new).reg 13 = (s.banks.spLr new.mode.bank).r13 ∧
      (s.loadStatus new).reg 14 = (s.banks.spLr new.mode.bank).r14 ∧
      (∀ q, s.banks.spsr new.mode.bank = some q → (s.loadStatus new).spsr = q))

/-- 10_state R62 and R64, 70 R520: the machine after reset, where the spec states a value. -/
def Obligations.ResetState : Prop :=
  State.reset.cpsr.mode = .supervisor ∧ State.reset.cpsr.t = false ∧ State.reset.cpsr.i = true ∧
  State.reset.cpsr.f = true ∧ State.reset.reg 15 = 8 ∧ State.reset.prepared.currentInstruction = 0 ∧
  State.reset.redirected = false ∧
  State.reset.dev.enabled = 0 ∧ State.reset.dev.pending = 0 ∧ State.reset.dev.master = false ∧
  State.reset.dev.power = .run ∧ State.reset.dev.rstPending = false ∧ State.reset.dev.fiqPending = false ∧
  State.reset.dev.waitcnt = 0 ∧ State.reset.dev.postflg = 0 ∧
  (∀ ch : Fin 4, (State.reset.dev.dma[ch]).sad = 0 ∧ (State.reset.dev.dma[ch]).dad = 0 ∧
    (State.reset.dev.dma[ch]).cnt = 0 ∧ (State.reset.dev.dma[ch]).ctrl.toWord = 0 ∧
    (State.reset.dev.dma[ch]).active = false) ∧
  (∀ t : Fin 4, (State.reset.dev.timers[t]).counter = 0 ∧ (State.reset.dev.timers[t]).reload = 0 ∧
    (State.reset.dev.timers[t]).control.toWord = 0 ∧ (State.reset.dev.timers[t]).overflowAt = none) ∧
  State.reset.dev.now = 0

/-! ## Wide data processing and multiplies (42, 43) -/

/-- 42 R190 to R193, R197, R200 to R215: each of the sixteen operations in each of the three operand formats, r15 not
the destination, answers a next state in which Rd holds the table's result (the four compares write no register) and,
with S or in a compare, N, Z, C and V are those of the table; without S the status word is unchanged; nothing else
changes. -/
def Obligations.DataProcessingResult : Prop :=
  ∀ (o : AluOp) (c : Cond) (s : Bool) (rn rd : Reg) (form : DpForm) (st : State),
    Cond.holds c st.cpsr = true → (dpInstr o c s rn rd form).wf = true → (o.writes = true → rd ≠ 15) →
    ∃ t, exec (dpInstr o c s rn rd form) st = .next t ∧
      (o.writes = true → t.reg rd = dpResult o (form.op1 st rn) (form.op2 st).value st.cpsr.c) ∧
      (s = true ∨ o.writes = false → DpFlagged o st t (form.op1 st rn) (form.op2 st).value (form.op2 st).carry) ∧
      (s = false → o.writes = true → t.cpsr = st.cpsr) ∧
      RegsKeptBut (if o.writes then [rd] else []) st t ∧ PcKept st t ∧ SystemKept st t ∧ MemKept st t

/-- 42 R198 and R199: an operation that writes r15. With S = 0 it branches and changes no status bit; with S = 1 it
copies SPSR to CPSR and branches, the result coming from the registers of the old mode; with S = 1 it stops where the
mode has no SPSR (U1) or the SPSR's mode is illegal (U2). -/
def Obligations.DataProcessingToPc : Prop :=
  ∀ (o : AluOp) (c : Cond) (rn : Reg) (form : DpForm) (st : State),
    Cond.holds c st.cpsr = true → o.writes = true → (dpInstr o c false rn 15 form).wf = true →
    (∃ t, exec (dpInstr o c false rn 15 form) st = .next t ∧ t.redirected = true ∧ t.cpsr = st.cpsr ∧
      t.reg 15 = dpResult o (form.op1 st rn) (form.op2 st).value st.cpsr.c) ∧
    (st.cpsr.mode.hasSpsr = true → ∀ new, st.spsr.toStatus = some new →
      exec (dpInstr o c true rn 15 form) st =
        .next ((st.loadStatus new).branchTo (dpResult o (form.op1 st rn) (form.op2 st).value st.cpsr.c))) ∧
    (st.cpsr.mode.hasSpsr = true → st.spsr.toStatus = none →
      exec (dpInstr o c true rn 15 form) st = .refused .illegalMode) ∧
    (st.cpsr.mode.hasSpsr = false → exec (dpInstr o c true rn 15 form) st = .refused .noSpsr)

/-- What data processing leaves alone, for every form but the exception return (S = 1 with Rd = 15): every register but
Rd and (where it writes r15) the PC, the status word's control bits, every flag without S, all else of the machine, every
byte of memory. -/
def Obligations.DataProcessingFrame : Prop :=
  ∀ (o : AluOp) (c : Cond) (s : Bool) (rn rd : Reg) (form : DpForm) (st t : State),
    exec (dpInstr o c s rn rd form) st = .next t → (o.writes = true → s = true → rd ≠ 15) →
    RegsKeptBut (if o.writes then [rd] else []) st t ∧
      ((o.writes = true → rd ≠ 15) → PcKept st t) ∧ ControlKept st t ∧
      (o.writes = true → s = false → t.cpsr = st.cpsr) ∧ (o.isLogical = true → t.cpsr.v = st.cpsr.v) ∧
      SystemKept st t ∧ MemKept st t

/-- 42 R193 and R194: the rotated immediate and the register shifted by an immediate, with their carries. -/
def Obligations.ImmediateShifts : Prop :=
  (∀ (rot : BitVec 4) (imm8 : BitVec 8) (c : Bool),
    (∀ k, k < 32 → (immOperand rot imm8 c).value.getLsbD k = imm8.getLsbD ((k + 2 * rot.toNat) % 32)) ∧
    (immOperand rot imm8 c).carry = if rot = 0 then c else (immOperand rot imm8 c).value.getLsbD 31) ∧
  ∀ (m : Word) (c : Bool),
    shiftImm .lsl 0 m c = { value := m, carry := c } ∧
    shiftImm .lsr 0 m c = { value := 0, carry := m.getLsbD 31 } ∧
    shiftImm .asr 0 m c = { value := if m.getLsbD 31 then 0xFFFFFFFF else 0, carry := m.getLsbD 31 } ∧
    (shiftImm .ror 0 m c).carry = m.getLsbD 0 ∧ (shiftImm .ror 0 m c).value.getLsbD 31 = c ∧
    (∀ k, k < 31 → (shiftImm .ror 0 m c).value.getLsbD k = m.getLsbD (k + 1)) ∧
    ∀ n : BitVec 5, n ≠ 0 →
      ((shiftImm .lsl n m c).value.toNat = m.toNat * 2 ^ n.toNat % 2 ^ 32 ∧
        (shiftImm .lsl n m c).carry = m.getLsbD (32 - n.toNat)) ∧
      ((shiftImm .lsr n m c).value.toNat = m.toNat / 2 ^ n.toNat ∧
        (shiftImm .lsr n m c).carry = m.getLsbD (n.toNat - 1)) ∧
      ((shiftImm .asr n m c).value.toInt = m.toInt / 2 ^ n.toNat ∧
        (shiftImm .asr n m c).carry = m.getLsbD (n.toNat - 1)) ∧
      (∀ k, k < 32 → (shiftImm .ror n m c).value.getLsbD k = m.getLsbD ((k + n.toNat) % 32)) ∧
      (shiftImm .ror n m c).carry = m.getLsbD (n.toNat - 1)

/-- 42 R195: the register shifted by the low byte of a register, 0 to 255, with its carry; with r15 as the amount the
instruction stops (U5). -/
def Obligations.RegisterShifts : Prop :=
  (∀ (o : AluOp) (c : Cond) (s : Bool) (rn rd rm : Reg) (sh : Shift) (st : State), Cond.holds c st.cpsr = true →
    exec (dpInstr o c s rn rd (.regRs 15 sh rm)) st = .refused (.unpredictable .shiftAmountIsPc)) ∧
  ∀ (n : BitVec 8) (m : Word) (c : Bool),
    (n = 0 → ∀ sh, shiftReg sh n m c = { value := m, carry := c }) ∧
    (1 ≤ n.toNat → n.toNat ≤ 31 →
      ((shiftReg .lsl n m c).value.toNat = m.toNat * 2 ^ n.toNat % 2 ^ 32 ∧
        (shiftReg .lsl n m c).carry = m.getLsbD (32 - n.toNat)) ∧
      ((shiftReg .lsr n m c).value.toNat = m.toNat / 2 ^ n.toNat ∧
        (shiftReg .lsr n m c).carry = m.getLsbD (n.toNat - 1)) ∧
      ((shiftReg .asr n m c).value.toInt = m.toInt / 2 ^ n.toNat ∧
        (shiftReg .asr n m c).carry = m.getLsbD (n.toNat - 1))) ∧
    (n.toNat = 32 →
      shiftReg .lsl n m c = { value := 0, carry := m.getLsbD 0 } ∧
      shiftReg .lsr n m c = { value := 0, carry := m.getLsbD 31 }) ∧
    (33 ≤ n.toNat →
      shiftReg .lsl n m c = { value := 0, carry := false } ∧ shiftReg .lsr n m c = { value := 0, carry := false }) ∧
    (32 ≤ n.toNat →
      shiftReg .asr n m c = { value := if m.getLsbD 31 then 0xFFFFFFFF else 0, carry := m.getLsbD 31 }) ∧
    (n ≠ 0 → n.toNat % 32 = 0 → shiftReg .ror n m c = { value := m, carry := m.getLsbD 31 }) ∧
    (n.toNat % 32 ≠ 0 →
      (∀ k, k < 32 → (shiftReg .ror n m c).value.getLsbD k = m.getLsbD ((k + n.toNat) % 32)) ∧
      (shiftReg .ror n m c).carry = m.getLsbD (n.toNat % 32 - 1))

/-- 43 R231 and R232: MUL and MLA, their result, their flags (C after S = 1 is a free value, of which nothing is said)
and what they leave alone. -/
def Obligations.MultiplyResult : Prop :=
  ∀ (c : Cond) (s : Bool) (rd rn rs rm : Reg) (sbz : BitVec 4) (st : State), Cond.holds c st.cpsr = true →
    ((Instr.mul c s rd sbz rs rm).wf = true → ∃ t, exec (.mul c s rd sbz rs rm) st = .next t ∧
      (t.reg rd).toNat = (st.reg rm).toNat * (st.reg rs).toNat % 2 ^ 32 ∧
      (if s then t.cpsr = { st.cpsr with n := (t.reg rd).getLsbD 31, z := t.reg rd == 0, c := t.cpsr.c }
        else t.cpsr = st.cpsr) ∧
      RegsKeptBut [rd] st t ∧ PcKept st t ∧ SystemKept st t ∧ MemKept st t) ∧
    ((Instr.mla c s rd rn rs rm).wf = true → ∃ t, exec (.mla c s rd rn rs rm) st = .next t ∧
      (t.reg rd).toNat = ((st.reg rm).toNat * (st.reg rs).toNat + (st.reg rn).toNat) % 2 ^ 32 ∧
      (if s then t.cpsr = { st.cpsr with n := (t.reg rd).getLsbD 31, z := t.reg rd == 0, c := t.cpsr.c }
        else t.cpsr = st.cpsr) ∧
      RegsKeptBut [rd] st t ∧ PcKept st t ∧ SystemKept st t ∧ MemKept st t)

/-- 43 R233 to R236: the four long multiplies as unbounded products modulo 2^64, their flags (C and V after S = 1 are
undefined there, and nothing is said of them) and what they leave alone. -/
def Obligations.LongMultiplyResult : Prop :=
  ∀ (op : LongOp) (c : Cond) (s : Bool) (rdHi rdLo rs rm : Reg) (st : State),
    Cond.holds c st.cpsr = true → (longInstr op c s rdHi rdLo rs rm).wf = true →
    ∃ t, exec (longInstr op c s rdHi rdLo rs rm) st = .next t ∧
      ((2 ^ 32 * (t.reg rdHi).toNat + (t.reg rdLo).toNat : Nat) : Int) =
        (match op with
          | .umull => ((st.reg rm).toNat * (st.reg rs).toNat : Int)
          | .umlal => (st.reg rm).toNat * (st.reg rs).toNat + (2 ^ 32 * (st.reg rdHi).toNat + (st.reg rdLo).toNat)
          | .smull => (st.reg rm).toInt * (st.reg rs).toInt
          | .smlal => (st.reg rm).toInt * (st.reg rs).toInt + (2 ^ 32 * (st.reg rdHi).toNat + (st.reg rdLo).toNat)) %
          2 ^ 64 ∧
      (if s then
        t.cpsr = { st.cpsr with
          n := (t.reg rdHi).getLsbD 31, z := t.reg rdHi == 0 && t.reg rdLo == 0, c := t.cpsr.c, v := t.cpsr.v }
        else t.cpsr = st.cpsr) ∧
      RegsKeptBut [rdHi, rdLo] st t ∧ PcKept st t ∧ SystemKept st t ∧ MemKept st t

/-! ## Wide transfers (44, 45) -/

/-- 44 R240 to R242, R244, R246, R248: the twelve forms of LDR and LDRB, with LDRT and LDRBT, from memory: the loaded
value, the write-back, r15 as a destination, and what they leave alone. -/
def Obligations.LoadWordByteResult : Prop :=
  ∀ (op : SdtOp) (k : LoadKind) (c : Cond) (mode : SdtMode) (u : Bool) (rn rd : Reg) (off : SdtOffset) (st : State)
    (idx ea : Word),
    op.kind = some k → Cond.holds c st.cpsr = true → (sdtInstr op c mode u rn rd off).wf = true →
    idx = (if u then st.reg rn + off.value st else st.reg rn - off.value st) →
    ea = (if mode.p then idx else st.reg rn) → Readable st.params (k.busAddress ea) →
    ∃ t, exec (sdtInstr op c mode u rn rd off) st = .next t ∧ LoadsAs k st ea (t.reg rd) ∧
      (rd = 15 → t.redirected = true) ∧
      ((mode.p = false ∨ mode.w = true) → rn ≠ rd → t.reg rn = idx) ∧
      RegsKeptBut (if mode.p = false ∨ mode.w = true then [rd, rn] else [rd]) st t ∧ (rd ≠ 15 → PcKept st t) ∧
      t.cpsr = st.cpsr ∧ SystemKept st t ∧ MemKept st t

/-- 44 R250, R251, R253, R254, R256: LDRH, LDRSB and LDRSH from memory, an odd halfword address under the parameter
value `arm7tdmi`; under `refuse` the odd address stops by name. -/
def Obligations.LoadHalfSignedResult : Prop :=
  ∀ (op : HwOp) (k : LoadKind) (c : Cond) (p u w : Bool) (rn rd : Reg) (off : HwOffset) (st : State) (idx ea : Word),
    op.kind = some k → Cond.holds c st.cpsr = true → (hwInstr op c p u w rn rd off).wf = true →
    idx = (if u then st.reg rn + off.value st else st.reg rn - off.value st) →
    ea = (if p then idx else st.reg rn) →
    (OddHalf k ea → st.params.oddHalfword = .refuse →
      exec (hwInstr op c p u w rn rd off) st = .refused .oddHalfwordLoad) ∧
    (Readable st.params (k.busAddress ea) → (OddHalf k ea → st.params.oddHalfword = .arm7tdmi) →
      ∃ t, exec (hwInstr op c p u w rn rd off) st = .next t ∧ LoadsAs k st ea (t.reg rd) ∧
        ((p = false ∨ w = true) → rn ≠ rd → t.reg rn = idx) ∧
        RegsKeptBut (if p = false ∨ w = true then [rd, rn] else [rd]) st t ∧ PcKept st t ∧
        t.cpsr = st.cpsr ∧ SystemKept st t ∧ MemKept st t)

/-- 44 R243, R245, R247, R248, R252: STR, STRB, STRT, STRBT and STRH to memory: the stored bytes, every other byte kept,
the write-back, and what they leave alone. -/
def Obligations.StoreResult : Prop :=
  (∀ (isByte : Bool) (c : Cond) (mode : SdtMode) (u : Bool) (rn rd : Reg) (off : SdtOffset) (st : State) (idx ea : Word),
    Memory.wf st.mem = true → Cond.holds c st.cpsr = true →
    (sdtInstr (if isByte then .strb else .str) c mode u rn rd off).wf = true →
    idx = (if u then st.reg rn + off.value st else st.reg rn - off.value st) →
    ea = (if mode.p then idx else st.reg rn) →
    InMemory st.params (storeAddress (if isByte then 1 else 4) ea) →
    ∃ t, exec (sdtInstr (if isByte then .strb else .str) c mode u rn rd off) st = .next t ∧
      Stored (cellOf st.params (storeAddress (if isByte then 1 else 4) ea)) (if isByte then 1 else 4)
        (if rd = 15 then st.reg 15 + 4 else st.reg rd) st t ∧
      ((mode.p = false ∨ mode.w = true) → t.reg rn = idx) ∧
      RegsKeptBut (if mode.p = false ∨ mode.w = true then [rn] else []) st t ∧ PcKept st t ∧
      t.cpsr = st.cpsr ∧ SystemKept st t) ∧
  ∀ (c : Cond) (p u w : Bool) (rn rd : Reg) (off : HwOffset) (st : State) (idx ea : Word),
    Memory.wf st.mem = true → Cond.holds c st.cpsr = true → (hwInstr .strh c p u w rn rd off).wf = true →
    idx = (if u then st.reg rn + off.value st else st.reg rn - off.value st) →
    ea = (if p then idx else st.reg rn) → InMemory st.params (align2 ea) →
    ∃ t, exec (hwInstr .strh c p u w rn rd off) st = .next t ∧
      Stored (cellOf st.params (align2 ea)) 2 (st.reg rd) st t ∧
      ((p = false ∨ w = true) → t.reg rn = idx) ∧
      RegsKeptBut (if p = false ∨ w = true then [rn] else []) st t ∧ PcKept st t ∧ t.cpsr = st.cpsr ∧ SystemKept st t

/-- What the wide single stores leave alone wherever they store, the bus call not failing (FailedAccessAborts has the
rest): every register but a written-back base, the status word, and every byte of memory but the stored bytes; all of
memory where the address reaches no storage. -/
def Obligations.StoreFrame : Prop :=
  (∀ (isByte : Bool) (c : Cond) (mode : SdtMode) (u : Bool) (rn rd : Reg) (off : SdtOffset) (st t : State) (ea : Word),
    Memory.wf st.mem = true →
    exec (sdtInstr (if isByte then .strb else .str) c mode u rn rd off) st = .next t →
    ea = (if mode.p then (if u then st.reg rn + off.value st else st.reg rn - off.value st) else st.reg rn) →
    ¬storeFails (if isByte then 1 else 4) st ea (if rd = 15 then st.reg 15 + 4 else st.reg rd) →
    RegsKeptBut (if mode.p = false ∨ mode.w = true then [rn] else []) st t ∧ PcKept st t ∧ t.cpsr = st.cpsr ∧
      CoreKept st t ∧ MemKeptButStore (storeAddress (if isByte then 1 else 4) ea) (if isByte then 1 else 4) st t) ∧
  ∀ (c : Cond) (p u w : Bool) (rn rd : Reg) (off : HwOffset) (st t : State) (ea : Word),
    Memory.wf st.mem = true →
    exec (hwInstr .strh c p u w rn rd off) st = .next t →
    ea = (if p then (if u then st.reg rn + off.value st else st.reg rn - off.value st) else st.reg rn) →
    ¬storeFails 2 st ea (st.reg rd) →
    RegsKeptBut (if p = false ∨ w = true then [rn] else []) st t ∧ PcKept st t ∧ t.cpsr = st.cpsr ∧ CoreKept st t ∧
      MemKeptButStore (align2 ea) 2 st t

/-- 44 R241, 45 R284, R285, 48 R371, 60 R431: a single transfer or a swap whose bus call fails, the load or the store of
a swap alike, enters Data Abort from the state as it was: neither Rd nor the base register is written, and the failing
call had no effect. -/
def Obligations.FailedAccessAborts : Prop :=
  (∀ (op : SdtOp) (c : Cond) (mode : SdtMode) (u : Bool) (rn rd : Reg) (off : SdtOffset) (st : State) (ea : Word),
    Cond.holds c st.cpsr = true → (sdtInstr op c mode u rn rd off).wf = true →
    ea = (if mode.p then (if u then st.reg rn + off.value st else st.reg rn - off.value st) else st.reg rn) →
    (match op with
      | .ldr => LoadKind.word.fails st ea
      | .ldrb => LoadKind.byte.fails st ea
      | .str => storeFails 4 st ea (if rd = 15 then st.reg 15 + 4 else st.reg rd)
      | .strb => storeFails 1 st ea (st.reg rd)) →
    exec (sdtInstr op c mode u rn rd off) st = .next (st.enter .dataAbort)) ∧
  (∀ (op : HwOp) (c : Cond) (p u w : Bool) (rn rd : Reg) (off : HwOffset) (st : State) (ea : Word),
    Cond.holds c st.cpsr = true → (hwInstr op c p u w rn rd off).wf = true →
    ea = (if p then (if u then st.reg rn + off.value st else st.reg rn - off.value st) else st.reg rn) →
    (match op.kind with
      | some k => (OddHalf k ea → st.params.oddHalfword = .arm7tdmi) ∧ k.fails st ea
      | none => storeFails 2 st ea (st.reg rd)) →
    exec (hwInstr op c p u w rn rd off) st = .next (st.enter .dataAbort)) ∧
  (∀ (op : TLoad) (ro rb rd : LoReg) (imm5 : BitVec 5) (st : State) (ea : Word),
    ea = op.address ro imm5 rb st → (OddHalf op.kind ea → st.params.oddHalfword = .arm7tdmi) →
    op.kind.fails st ea → exec (tLoadInstr op ro imm5 rb rd) st = .next (st.enter .dataAbort)) ∧
  (∀ (op : TStore) (ro rb rd : LoReg) (imm5 : BitVec 5) (st : State),
    storeFails op.bytes st (op.address ro imm5 rb st) (st.reg (low rd)) →
    exec (tStoreInstr op ro imm5 rb rd) st = .next (st.enter .dataAbort)) ∧
  (∀ (c : Cond) (rn rd rm : Reg) (st : State), Cond.holds c st.cpsr = true →
    ((Instr.swp c rn rd rm).wf = true →
      LoadKind.word.fails st (st.reg rn) ∨ storeFails 4 st (st.reg rn) (st.reg rm) →
      exec (.swp c rn rd rm) st = .next (st.enter .dataAbort)) ∧
    ((Instr.swpb c rn rd rm).wf = true →
      LoadKind.byte.fails st (st.reg rn) ∨ storeFails 1 st (st.reg rn) (st.reg rm) →
      exec (.swpb c rn rd rm) st = .next (st.enter .dataAbort))) ∧
  ∀ (rd : LoReg) (imm8 : BitVec 8) (st : State),
    (LoadKind.word.fails st ((st.reg 15 &&& 0xFFFFFFFC) + BitVec.ofNat 32 (4 * imm8.toNat)) →
      exec (.tLdrPc rd imm8) st = .next (st.enter .dataAbort)) ∧
    (LoadKind.word.fails st (st.reg 13 + BitVec.ofNat 32 (4 * imm8.toNat)) →
      exec (.tLdrSp rd imm8) st = .next (st.enter .dataAbort)) ∧
    (storeFails 4 st (st.reg 13 + BitVec.ofNat 32 (4 * imm8.toNat)) (st.reg (low rd)) →
      exec (.tStrSp rd imm8) st = .next (st.enter .dataAbort))

/-- 45 R270 to R273 and 48 R394: LDM and the narrow LDMIA from memory: every register of the list gets the word of its
place, a base outside the list is written back, r15 is a branch, and nothing else changes. -/
def Obligations.LoadMultipleResult : Prop :=
  (∀ (c : Cond) (p u w : Bool) (rn : Reg) (rlist : BitVec 16) (st : State) (start : Word),
    Cond.holds c st.cpsr = true → (Instr.ldm c p u w rn rlist).wf = true →
    start = blockStart p u (st.reg rn) rlist → SlotsReadable st.params start (listCount rlist) →
    ∃ t, exec (.ldm c p u w rn rlist) st = .next t ∧
      BlockLoaded (regList rlist) start (listCount rlist) st t.reg ∧
      (w = true → rlist.getLsbD rn.toNat = false → t.reg rn = blockFinal u (st.reg rn) rlist) ∧
      (rlist.getLsbD 15 = true → t.redirected = true ∧ t.reg 15 = slotWord st start (listCount rlist - 1)) ∧
      RegsKeptBut (if w then rn :: regList rlist else regList rlist) st t ∧
      (rlist.getLsbD 15 = false → PcKept st t) ∧
      t.cpsr = st.cpsr ∧ SystemKept st t ∧ MemKept st t) ∧
  ∀ (rb : LoReg) (rlist : BitVec 8) (st : State),
    rlist ≠ 0 → SlotsReadable st.params (st.reg (low rb)) (listCount (rlist.setWidth 16)) →
    ∃ t, exec (.tLdmia rb rlist) st = .next t ∧
      BlockLoaded (regList (rlist.setWidth 16)) (st.reg (low rb)) (listCount (rlist.setWidth 16)) st t.reg ∧
      (rlist.getLsbD rb.toNat = false →
        t.reg (low rb) = st.reg (low rb) + BitVec.ofNat 32 (4 * listCount (rlist.setWidth 16))) ∧
      RegsKeptBut (low rb :: regList (rlist.setWidth 16)) st t ∧ PcKept st t ∧
      t.cpsr = st.cpsr ∧ SystemKept st t ∧ MemKept st t

/-- 45 R274, R275, 48 R390, R393: STM, the narrow STMIA and PUSH to memory: the words stored at their places, every
other byte kept (where a mirror makes two places one, the later word stays), the written-back base, and nothing else changed. -/
def Obligations.StoreMultipleResult : Prop :=
  (∀ (c : Cond) (p u w : Bool) (rn : Reg) (rlist : BitVec 16) (st : State) (start : Word),
    Memory.wf st.mem = true → Cond.holds c st.cpsr = true → (Instr.stm c p u w rn rlist).wf = true →
    start = blockStart p u (st.reg rn) rlist → SlotsWritable st.params start (listCount rlist) →
    ∃ t, exec (.stm c p u w rn rlist) st = .next t ∧
      BlockStored (storedWords st st.reg u w rn rlist) start (listCount rlist) st t ∧
      (w = true → t.reg rn = blockFinal u (st.reg rn) rlist) ∧
      RegsKeptBut (if w then [rn] else []) st t ∧ PcKept st t ∧ t.cpsr = st.cpsr ∧ SystemKept st t) ∧
  (∀ (rb : LoReg) (rlist : BitVec 8) (st : State),
    Memory.wf st.mem = true → rlist ≠ 0 →
    SlotsWritable st.params (st.reg (low rb)) (listCount (rlist.setWidth 16)) →
    ∃ t, exec (.tStmia rb rlist) st = .next t ∧
      BlockStored (storedWords st st.reg true true (low rb) (rlist.setWidth 16)) (st.reg (low rb))
        (listCount (rlist.setWidth 16)) st t ∧
      t.reg (low rb) = st.reg (low rb) + BitVec.ofNat 32 (4 * listCount (rlist.setWidth 16)) ∧
      RegsKeptBut [low rb] st t ∧ PcKept st t ∧ t.cpsr = st.cpsr ∧ SystemKept st t) ∧
  ∀ (r : Bool) (rlist : BitVec 8) (list : BitVec 16) (st : State) (start : Word),
    Memory.wf st.mem = true → (r = true ∨ rlist ≠ 0) → list = (0#1 ++ BitVec.ofBool r ++ 0#6 ++ rlist : BitVec 16) →
    start = st.reg 13 - BitVec.ofNat 32 (4 * listCount list) → SlotsWritable st.params start (listCount list) →
    ∃ t, exec (.tPush r rlist) st = .next t ∧
      BlockStored ((regList list).map st.reg) start (listCount list) st t ∧ t.reg 13 = start ∧
      RegsKeptBut [13] st t ∧ PcKept st t ∧ t.cpsr = st.cpsr ∧ SystemKept st t

/-- 45 R276: the user-bank forms move the User-mode registers whatever the mode, and the base comes from the current
mode; LDM of the user bank leaves the current mode's banked registers alone. -/
def Obligations.UserBankTransfers : Prop :=
  (∀ (c : Cond) (p u w : Bool) (rn : Reg) (rlist : BitVec 15) (list : BitVec 16) (st : State) (start : Word),
    Cond.holds c st.cpsr = true → (Instr.ldmUser c p u w rn rlist).wf = true → list = (0#1 ++ rlist : BitVec 16) →
    start = blockStart p u (st.reg rn) list → SlotsReadable st.params start (listCount list) →
    ∃ t, exec (.ldmUser c p u w rn rlist) st = .next t ∧
      BlockLoaded (regList list) start (listCount list) st t.usrReg ∧
      RegsKeptBut (regList list) st t ∧ PcKept st t ∧
      (st.cpsr.mode.bank ≠ .usr → t.reg 13 = st.reg 13 ∧ t.reg 14 = st.reg 14) ∧
      (st.cpsr.mode.bank = .fiq → t.liveHi = st.liveHi) ∧
      (∀ b, b ≠ .usr → t.banks.spLr b = st.banks.spLr b) ∧ t.banks.fiqHi = st.banks.fiqHi ∧
      (∀ b, t.banks.spsr b = st.banks.spsr b) ∧ t.spsr = st.spsr ∧ t.cpsr = st.cpsr ∧ t.dev = st.dev ∧
      t.nodeStores = st.nodeStores ∧ t.hostCalls = st.hostCalls ∧ t.draws = st.draws ∧ t.params = st.params ∧
      MemKept st t) ∧
  (∀ (c : Cond) (p u w : Bool) (rn : Reg) (rlist : BitVec 16) (st : State) (start : Word),
    Memory.wf st.mem = true → Cond.holds c st.cpsr = true → (Instr.stmUser c p u w rn rlist).wf = true →
    start = blockStart p u (st.reg rn) rlist → SlotsWritable st.params start (listCount rlist) →
    ∃ t, exec (.stmUser c p u w rn rlist) st = .next t ∧
      BlockStored (storedWords st st.usrReg u false rn rlist) start (listCount rlist) st t ∧
      RegsKeptBut [] st t ∧ PcKept st t ∧ t.cpsr = st.cpsr ∧ SystemKept st t) ∧
  ∀ (st : State) (i : Reg),
    st.usrReg i =
      (if st.cpsr.mode = .fiq ∧ 8 ≤ i.toNat ∧ i.toNat ≤ 12 then st.banks.usrHi.toList.getD (i.toNat - 8) 0
        else if i = 13 ∧ st.cpsr.mode ≠ .user ∧ st.cpsr.mode ≠ .system then st.banks.usr.r13
        else if i = 14 ∧ st.cpsr.mode ≠ .user ∧ st.cpsr.mode ≠ .system then st.banks.usr.r14
        else st.reg i)

/-- 45 R277: LDM with the CPSR restored loads as LDM does, then copies SPSR to CPSR, then branches to the word loaded
for r15; without an SPSR it stops (U1). -/
def Obligations.LoadMultipleReturn : Prop :=
  ∀ (c : Cond) (p u w : Bool) (rn : Reg) (rlist : BitVec 15) (list : BitVec 16) (st : State) (start : Word) (new : Status),
    Cond.holds c st.cpsr = true → rn ≠ 15 → list = (1#1 ++ rlist : BitVec 16) →
    start = blockStart p u (st.reg rn) list → SlotsReadable st.params start (listCount list) →
    (st.cpsr.mode.hasSpsr = true → st.spsr.toStatus = some new →
      ∃ r : State, BlockLoaded (regList list) start (listCount list) st r.reg ∧
        (w = true → list.getLsbD rn.toNat = false → r.reg rn = blockFinal u (st.reg rn) list) ∧
        RegsKeptBut (if w then rn :: regList list else regList list) st r ∧ PcKept st r ∧
        r.cpsr = st.cpsr ∧ SystemKept st r ∧ r.mem = st.mem ∧
        exec (.ldmCpsr c p u w rn rlist) st =
          .next ((r.loadStatus new).branchTo (slotWord st start (listCount list - 1)))) ∧
    (st.cpsr.mode.hasSpsr = false → exec (.ldmCpsr c p u w rn rlist) st = .refused .noSpsr)

/-- 48 R391: POP from memory: the registers, then SP, then the PC with bit 0 dropped. -/
def Obligations.PopResult : Prop :=
  ∀ (r : Bool) (rlist : BitVec 8) (list : BitVec 16) (st : State),
    (r = true ∨ rlist ≠ 0) → list = (BitVec.ofBool r ++ 0#7 ++ rlist : BitVec 16) →
    SlotsReadable st.params (st.reg 13) (listCount list) →
    ∃ t, exec (.tPop r rlist) st = .next t ∧
      BlockLoaded (regList list) (st.reg 13) (listCount list) st t.reg ∧
      t.reg 13 = st.reg 13 + BitVec.ofNat 32 (4 * listCount list) ∧
      (r = true → t.redirected = true ∧
        t.reg 15 = slotWord st (st.reg 13) (listCount list - 1) &&& 0xFFFFFFFE) ∧
      RegsKeptBut (13 :: regList list) st t ∧ (r = false → PcKept st t) ∧ t.cpsr = st.cpsr ∧ SystemKept st t ∧ MemKept st t

/-- 45 R279 and 48 R392: a block transfer whose `k0`-th bus call is the first to fail enters Data Abort there. Of the
loads (LDM, LDM with the CPSR restored, LDMIA, POP, LDM of the user bank) the registers loaded before keep their words
and every other register, the base and r15 among them, is as before; of the stores (STM, STM of the user bank, STMIA,
PUSH) the words stored before stay and every register, the base among them, is as before. The CPSR is not restored. -/
def Obligations.BlockTransferAborts : Prop :=
  (∀ (i : Instr) (c : Cond) (p u w r : Bool) (rn : Reg) (rb : LoReg) (rl : BitVec 16) (rl15 : BitVec 15)
    (rl8 : BitVec 8) (st : State) (list : BitVec 16) (start : Word) (k0 : Nat),
    Cond.holds c st.cpsr = true → i.wf = true →
    ((i = .ldm c p u w rn rl ∧ list = rl ∧ start = blockStart p u (st.reg rn) list) ∨
      (i = .ldmCpsr c p u w rn rl15 ∧ st.cpsr.mode.hasSpsr = true ∧ list = (1#1 ++ rl15 : BitVec 16) ∧
        start = blockStart p u (st.reg rn) list) ∨
      (i = .tLdmia rb rl8 ∧ list = rl8.setWidth 16 ∧ start = st.reg (low rb)) ∨
      (i = .tPop r rl8 ∧ list = (BitVec.ofBool r ++ 0#7 ++ rl8 : BitVec 16) ∧ start = st.reg 13)) →
    k0 < listCount list → (∀ k, k < k0 → st.load32 (slot start k) ≠ none) → st.load32 (slot start k0) = none →
    ∃ q : State, exec i st = .next (q.enter .dataAbort) ∧
      (∀ k x, k < k0 → (regList list)[k]? = some x → st.load32 (slot start k) = some (q.reg x)) ∧
      (∀ x, x ∉ (regList list).take k0 → q.reg x = st.reg x) ∧ q.cpsr = st.cpsr ∧ SystemKept st q ∧ q.mem = st.mem) ∧
  (∀ (c : Cond) (p u w : Bool) (rn : Reg) (rl15 : BitVec 15) (list : BitVec 16) (st : State) (start : Word) (k0 : Nat),
    Cond.holds c st.cpsr = true → (Instr.ldmUser c p u w rn rl15).wf = true → list = (0#1 ++ rl15 : BitVec 16) →
    start = blockStart p u (st.reg rn) list →
    k0 < listCount list → (∀ k, k < k0 → st.load32 (slot start k) ≠ none) → st.load32 (slot start k0) = none →
    ∃ q : State, exec (.ldmUser c p u w rn rl15) st = .next (q.enter .dataAbort) ∧
      (∀ k x, k < k0 → (regList list)[k]? = some x → st.load32 (slot start k) = some (q.usrReg x)) ∧
      (∀ x, x ∉ (regList list).take k0 → q.usrReg x = st.usrReg x ∧ q.reg x = st.reg x) ∧
      (st.cpsr.mode.bank ≠ .usr → q.reg 13 = st.reg 13 ∧ q.reg 14 = st.reg 14) ∧
      (st.cpsr.mode.bank = .fiq → q.liveHi = st.liveHi) ∧
      (∀ b, b ≠ .usr → q.banks.spLr b = st.banks.spLr b) ∧ q.banks.fiqHi = st.banks.fiqHi ∧
      (∀ b, q.banks.spsr b = st.banks.spsr b) ∧ q.spsr = st.spsr ∧ q.cpsr = st.cpsr ∧ q.dev = st.dev ∧
      q.mem = st.mem ∧ q.nodeStores = st.nodeStores) ∧
  ∀ (i : Instr) (c : Cond) (p u w r : Bool) (rn : Reg) (rb : LoReg) (rl : BitVec 16) (rl8 : BitVec 8) (st : State)
    (list : BitVec 16) (start : Word) (vs : List Word) (v : Word) (k0 : Nat),
    Memory.wf st.mem = true → Cond.holds c st.cpsr = true → i.wf = true →
    ((i = .stm c p u w rn rl ∧ list = rl ∧ start = blockStart p u (st.reg rn) list ∧
        vs = storedWords st st.reg u w rn list) ∨
      (i = .stmUser c p u w rn rl ∧ list = rl ∧ start = blockStart p u (st.reg rn) list ∧
        vs = storedWords st st.usrReg u false rn list) ∨
      (i = .tStmia rb rl8 ∧ list = rl8.setWidth 16 ∧ start = st.reg (low rb) ∧
        vs = storedWords st st.reg true true (low rb) list) ∨
      (i = .tPush r rl8 ∧ list = (0#1 ++ BitVec.ofBool r ++ 0#6 ++ rl8 : BitVec 16) ∧
        start = st.reg 13 - BitVec.ofNat 32 (4 * listCount list) ∧ vs = (regList list).map st.reg)) →
    SlotsWritable st.params start k0 → vs[k0]? = some v → st.store32 (slot start k0) v = none →
    ∃ q : State, exec i st = .next (q.enter .dataAbort) ∧ BlockStored vs start k0 st q ∧
      (∀ x, q.reg x = st.reg x) ∧ q.cpsr = st.cpsr ∧ SystemKept st q

/-- 45 R284 and R285: SWP and SWPB in memory: Rd gets the old word (rotated) or byte, memory gets Rm, nothing else
changes. -/
def Obligations.SwapResult : Prop :=
  ∀ (c : Cond) (rn rd rm : Reg) (st : State), Cond.holds c st.cpsr = true → Memory.wf st.mem = true →
    ((Instr.swp c rn rd rm).wf = true → InMemory st.params (align4 (st.reg rn)) →
      ∃ t, exec (.swp c rn rd rm) st = .next t ∧ LoadsAs .word st (st.reg rn) (t.reg rd) ∧
        Stored (cellOf st.params (align4 (st.reg rn))) 4 (st.reg rm) st t ∧ RegsKeptBut [rd] st t ∧ PcKept st t ∧
        t.cpsr = st.cpsr ∧ SystemKept st t) ∧
    ((Instr.swpb c rn rd rm).wf = true → InMemory st.params (st.reg rn) →
      ∃ t, exec (.swpb c rn rd rm) st = .next t ∧ LoadsAs .byte st (st.reg rn) (t.reg rd) ∧
        Stored (cellOf st.params (st.reg rn)) 1 (st.reg rm) st t ∧ RegsKeptBut [rd] st t ∧ PcKept st t ∧
        t.cpsr = st.cpsr ∧ SystemKept st t)

/-! ## Branches, status transfer, software interrupt, undefined (41, 46) -/

/-- 41 R180, R181 and R184: B, BL and BX. -/
def Obligations.BranchResult : Prop :=
  ∀ (c : Cond) (st : State), Cond.holds c st.cpsr = true →
    (∀ imm24 : BitVec 24, ∃ t, exec (.b c imm24) st = .next t ∧ t.redirected = true ∧
      t.reg 15 = st.reg 15 + BitVec.ofInt 32 (4 * imm24.toInt) ∧
      RegsKeptBut [] st t ∧ t.cpsr = st.cpsr ∧ SystemKept st t ∧ MemKept st t) ∧
    (∀ imm24 : BitVec 24, ∃ t, exec (.bl c imm24) st = .next t ∧ t.redirected = true ∧
      t.reg 15 = st.reg 15 + BitVec.ofInt 32 (4 * imm24.toInt) ∧ t.reg 14 = st.reg 15 - 4 ∧
      RegsKeptBut [14] st t ∧ t.cpsr = st.cpsr ∧ SystemKept st t ∧ MemKept st t) ∧
    ∀ rm : Reg, ∃ t, exec (.bx c rm) st = .next t ∧ t.redirected = true ∧
      t.reg 15 = st.reg rm &&& 0xFFFFFFFE ∧ t.cpsr = { st.cpsr with t := (st.reg rm).getLsbD 0 } ∧
      RegsKeptBut [] st t ∧ SystemKept st t ∧ MemKept st t

/-- 46 R290 with 10_state R36 to R38: MRS gives the status word bit by bit, bits 27:8 zero; from CPSR in every mode,
from SPSR where the mode has one, else it stops (U1); with Rd = 15 it stops (U14). -/
def Obligations.StatusReadResult : Prop :=
  ∀ (c : Cond) (rd : Reg) (st : State), Cond.holds c st.cpsr = true → rd ≠ 15 →
    (∃ t, exec (.mrsCpsr c rd) st = .next t ∧
      (t.reg rd).getLsbD 31 = st.cpsr.n ∧ (t.reg rd).getLsbD 30 = st.cpsr.z ∧ (t.reg rd).getLsbD 29 = st.cpsr.c ∧
      (t.reg rd).getLsbD 28 = st.cpsr.v ∧ (∀ k, 8 ≤ k → k ≤ 27 → (t.reg rd).getLsbD k = false) ∧
      (t.reg rd).getLsbD 7 = st.cpsr.i ∧ (t.reg rd).getLsbD 6 = st.cpsr.f ∧ (t.reg rd).getLsbD 5 = st.cpsr.t ∧
      (t.reg rd).extractLsb' 0 5 = st.cpsr.mode.bits ∧
      RegsKeptBut [rd] st t ∧ PcKept st t ∧ t.cpsr = st.cpsr ∧ SystemKept st t ∧ MemKept st t) ∧
    (st.cpsr.mode.hasSpsr = true → ∃ t, exec (.mrsSpsr c rd) st = .next t ∧
      (t.reg rd).getLsbD 31 = st.spsr.n ∧ (t.reg rd).getLsbD 30 = st.spsr.z ∧ (t.reg rd).getLsbD 29 = st.spsr.c ∧
      (t.reg rd).getLsbD 28 = st.spsr.v ∧ (∀ k, 8 ≤ k → k ≤ 27 → (t.reg rd).getLsbD k = false) ∧
      (t.reg rd).getLsbD 7 = st.spsr.i ∧ (t.reg rd).getLsbD 6 = st.spsr.f ∧ (t.reg rd).getLsbD 5 = st.spsr.t ∧
      (t.reg rd).extractLsb' 0 5 = st.spsr.m ∧
      RegsKeptBut [rd] st t ∧ PcKept st t ∧ t.cpsr = st.cpsr ∧ SystemKept st t ∧ MemKept st t) ∧
    (st.cpsr.mode.hasSpsr = false → exec (.mrsSpsr c rd) st = .refused .noSpsr) ∧
    exec (.mrsCpsr c 15) st = .refused (.unpredictable .statusReadToPc) ∧
    exec (.mrsSpsr c 15) st = .refused (.unpredictable .statusReadToPc)

/-- 46 R291 to R293: both forms of MSR to CPSR. In User mode the flags alone are written; elsewhere the control byte
too, through `load_status`; a change of T and an illegal mode stop by name (U2). -/
def Obligations.StatusWriteCpsr : Prop :=
  ∀ (c : Cond) (fmask : BitVec 4) (i : Instr) (v : Word) (st : State) (flags control : Bool),
    Cond.holds c st.cpsr = true →
    ((∃ rm : Reg, rm ≠ 15 ∧ i = .msrRegCpsr c fmask rm ∧ v = st.reg rm) ∨
      ∃ rot imm8, i = .msrImmCpsr c fmask rot imm8 ∧ v = (BitVec.setWidth 32 imm8).rotateRight (2 * rot.toNat)) →
    flags = fmask.getLsbD 3 → control = (fmask.getLsbD 0 && st.cpsr.mode != .user) →
    (∀ m, (if control then Mode.ofBits (v.extractLsb' 0 5) = some m ∧ v.getLsbD 5 = st.cpsr.t else m = st.cpsr.mode) →
      exec i st = .next (st.loadStatus
        { n := if flags then v.getLsbD 31 else st.cpsr.n
          z := if flags then v.getLsbD 30 else st.cpsr.z
          c := if flags then v.getLsbD 29 else st.cpsr.c
          v := if flags then v.getLsbD 28 else st.cpsr.v
          i := if control then v.getLsbD 7 else st.cpsr.i
          f := if control then v.getLsbD 6 else st.cpsr.f
          t := st.cpsr.t
          mode := m })) ∧
    (control = true → v.getLsbD 5 ≠ st.cpsr.t → exec i st = .refused .msrChangesWidth) ∧
    (control = true → v.getLsbD 5 = st.cpsr.t → Mode.ofBits (v.extractLsb' 0 5) = none →
      exec i st = .refused .illegalMode)

/-- 46 R291 and R292: both forms of MSR to SPSR write the selected bytes of the SPSR, its mode field unchecked; without
an SPSR they stop (U1). That they stop there for every field mask, 0000 among them, is the model's own choice (log entry
27). -/
def Obligations.StatusWriteSpsr : Prop :=
  ∀ (c : Cond) (fmask : BitVec 4) (i : Instr) (v : Word) (st : State),
    Cond.holds c st.cpsr = true →
    ((∃ rm : Reg, rm ≠ 15 ∧ i = .msrRegSpsr c fmask rm ∧ v = st.reg rm) ∨
      ∃ rot imm8, i = .msrImmSpsr c fmask rot imm8 ∧ v = (BitVec.setWidth 32 imm8).rotateRight (2 * rot.toNat)) →
    (st.cpsr.mode.hasSpsr = true → exec i st = .next { st with spsr :=
      { n := if fmask.getLsbD 3 then v.getLsbD 31 else st.spsr.n
        z := if fmask.getLsbD 3 then v.getLsbD 30 else st.spsr.z
        c := if fmask.getLsbD 3 then v.getLsbD 29 else st.spsr.c
        v := if fmask.getLsbD 3 then v.getLsbD 28 else st.spsr.v
        i := if fmask.getLsbD 0 then v.getLsbD 7 else st.spsr.i
        f := if fmask.getLsbD 0 then v.getLsbD 6 else st.spsr.f
        t := if fmask.getLsbD 0 then v.getLsbD 5 else st.spsr.t
        m := if fmask.getLsbD 0 then v.extractLsb' 0 5 else st.spsr.m } }) ∧
    (st.cpsr.mode.hasSpsr = false → exec i st = .refused .noSpsr)

/-- 46 R294, R296 to R301, 48 R406, 60 R427, R428: both SWIs and the six undefined and coprocessor formats take their
exception. -/
def Obligations.TrapsTaken : Prop :=
  ∀ (c : Cond) (st : State), Cond.holds c st.cpsr = true →
    (∀ comment : BitVec 24, exec (.swi c comment) st = .next (st.enter .swi)) ∧
    (∀ comment : BitVec 8, exec (.tSwi comment) st = .next (st.enter .swi)) ∧
    (∀ xHi xLo, exec (.und c xHi xLo) st = .next (st.enter .undefined)) ∧
    (∀ op1 crn crd cp op2 crm, exec (.cdp c op1 crn crd cp op2 crm) st = .next (st.enter .undefined)) ∧
    (∀ p u n w rn crd cp offset8, exec (.ldc c p u n w rn crd cp offset8) st = .next (st.enter .undefined)) ∧
    (∀ p u n w rn crd cp offset8, exec (.stc c p u n w rn crd cp offset8) st = .next (st.enter .undefined)) ∧
    (∀ op1 crn rd cp op2 crm, exec (.mcr c op1 crn rd cp op2 crm) st = .next (st.enter .undefined)) ∧
    ∀ op1 crn rd cp op2 crm, exec (.mrc c op1 crn rd cp op2 crm) st = .next (st.enter .undefined)

/-! ## The narrow set (47, 48) -/

/-- 47 R311 to R323: the eleven instructions of formats T1, T2 and T3: result, flags, and nothing else changed. -/
def Obligations.NarrowShiftAddResult : Prop :=
  ∀ (st : State) (rd rs rn : LoReg) (imm5 : BitVec 5) (imm3 : BitVec 3) (imm8 : BitVec 8),
    (∀ sh i, (sh, i) ∈ [(Shift.lsl, Instr.tLslImm imm5 rs rd), (.lsr, .tLsrImm imm5 rs rd), (.asr, .tAsrImm imm5 rs rd)] →
      ∃ t, exec i st = .next t ∧ t.reg (low rd) = (shiftImm sh imm5 (st.reg (low rs)) st.cpsr.c).value ∧
        Flagged st t (t.reg (low rd)) (shiftImm sh imm5 (st.reg (low rs)) st.cpsr.c).carry st.cpsr.v ∧
        RegsKeptBut [low rd] st t ∧ PcKept st t ∧ SystemKept st t ∧ MemKept st t) ∧
    (∀ o a b i, (o, a, b, i) ∈
        [(AluOp.add, st.reg (low rs), st.reg (low rn), Instr.tAddReg rn rs rd),
         (.sub, st.reg (low rs), st.reg (low rn), .tSubReg rn rs rd),
         (.add, st.reg (low rs), imm3.setWidth 32, .tAddImm3 imm3 rs rd),
         (.sub, st.reg (low rs), imm3.setWidth 32, .tSubImm3 imm3 rs rd),
         (.add, st.reg (low rd), imm8.setWidth 32, .tAddImm8 rd imm8),
         (.sub, st.reg (low rd), imm8.setWidth 32, .tSubImm8 rd imm8)] →
      ∃ t, exec i st = .next t ∧ t.reg (low rd) = dpResult o a b false ∧ DpFlagged o st t a b st.cpsr.c ∧
        RegsKeptBut [low rd] st t ∧ PcKept st t ∧ SystemKept st t ∧ MemKept st t) ∧
    (∃ t, exec (.tMovImm8 rd imm8) st = .next t ∧ t.reg (low rd) = imm8.setWidth 32 ∧
      Flagged st t (imm8.setWidth 32) st.cpsr.c st.cpsr.v ∧
      RegsKeptBut [low rd] st t ∧ PcKept st t ∧ SystemKept st t ∧ MemKept st t) ∧
    ∃ t, exec (.tCmpImm8 rd imm8) st = .next t ∧
      DpFlagged .cmp st t (st.reg (low rd)) (imm8.setWidth 32) st.cpsr.c ∧
      RegsKeptBut [] st t ∧ PcKept st t ∧ SystemKept st t ∧ MemKept st t

/-- 47 R324 to R339: the sixteen instructions of format T4: result, flags (C after MUL is a free value), and nothing
else changed. -/
def Obligations.NarrowRegisterResult : Prop :=
  ∀ (op : T4Op) (rs rd : LoReg) (st : State),
    ∃ t, exec (t4Instr op rs rd) st = .next t ∧
      (op.writes = true → t.reg (low rd) = op.result (st.reg (low rd)) (st.reg (low rs)) st.cpsr.c) ∧
      Flagged st t (op.result (st.reg (low rd)) (st.reg (low rs)) st.cpsr.c)
        ((op.carry (st.reg (low rd)) (st.reg (low rs)) st.cpsr.c).getD t.cpsr.c)
        (op.overflow (st.reg (low rd)) (st.reg (low rs)) st.cpsr.c st.cpsr.v) ∧
      RegsKeptBut (if op.writes then [low rd] else []) st t ∧ PcKept st t ∧ SystemKept st t ∧ MemKept st t

/-- 47 R340 to R343 and R350 to R353: the high-register instructions, BX, and the address arithmetic on PC and SP. -/
def Obligations.NarrowHighAndAddressResult : Prop :=
  ∀ (st : State) (h1 h2 : Bool) (rs rd : LoReg) (d s : Reg) (sbz : BitVec 3) (imm8 : BitVec 8) (imm7 : BitVec 7),
    d = (BitVec.ofBool h1 ++ rd : BitVec 4) → s = (BitVec.ofBool h2 ++ rs : BitVec 4) →
    (∃ t, exec (.tAddHi h1 h2 rs rd) st = .next t ∧ t.cpsr = st.cpsr ∧
      t.reg d = (if d = 15 then (st.reg d + st.reg s) &&& 0xFFFFFFFE else st.reg d + st.reg s) ∧
      (d = 15 → t.redirected = true) ∧ RegsKeptBut [d] st t ∧ (d ≠ 15 → PcKept st t) ∧ SystemKept st t ∧ MemKept st t) ∧
    (∃ t, exec (.tMovHi h1 h2 rs rd) st = .next t ∧ t.cpsr = st.cpsr ∧
      t.reg d = (if d = 15 then st.reg s &&& 0xFFFFFFFE else st.reg s) ∧
      (d = 15 → t.redirected = true) ∧ RegsKeptBut [d] st t ∧ (d ≠ 15 → PcKept st t) ∧ SystemKept st t ∧ MemKept st t) ∧
    (∃ t, exec (.tCmpHi h1 h2 rs rd) st = .next t ∧ DpFlagged .cmp st t (st.reg d) (st.reg s) st.cpsr.c ∧
      RegsKeptBut [] st t ∧ PcKept st t ∧ SystemKept st t ∧ MemKept st t) ∧
    (∃ t, exec (.tBx h2 rs sbz) st = .next t ∧ t.redirected = true ∧ t.reg 15 = st.reg s &&& 0xFFFFFFFE ∧
      t.cpsr = { st.cpsr with t := (st.reg s).getLsbD 0 } ∧
      RegsKeptBut [] st t ∧ SystemKept st t ∧ MemKept st t) ∧
    (∃ t, exec (.tAddPc rd imm8) st = .next t ∧ t.cpsr = st.cpsr ∧
      t.reg (low rd) = (st.reg 15 &&& 0xFFFFFFFC) + BitVec.ofNat 32 (4 * imm8.toNat) ∧
      RegsKeptBut [low rd] st t ∧ PcKept st t ∧ SystemKept st t ∧ MemKept st t) ∧
    (∃ t, exec (.tAddSp rd imm8) st = .next t ∧ t.cpsr = st.cpsr ∧
      t.reg (low rd) = st.reg 13 + BitVec.ofNat 32 (4 * imm8.toNat) ∧
      RegsKeptBut [low rd] st t ∧ PcKept st t ∧ SystemKept st t ∧ MemKept st t) ∧
    (∃ t, exec (.tAddSpimm imm7) st = .next t ∧ t.cpsr = st.cpsr ∧
      t.reg 13 = st.reg 13 + BitVec.ofNat 32 (4 * imm7.toNat) ∧
      RegsKeptBut [13] st t ∧ PcKept st t ∧ SystemKept st t ∧ MemKept st t) ∧
    ∃ t, exec (.tSubSpimm imm7) st = .next t ∧ t.cpsr = st.cpsr ∧
      t.reg 13 = st.reg 13 - BitVec.ofNat 32 (4 * imm7.toNat) ∧
      RegsKeptBut [13] st t ∧ PcKept st t ∧ SystemKept st t ∧ MemKept st t

/-- 47 R360: the narrow instructions of formats T1 to T5 and the SP arithmetic act as the wide instructions the rule
names, with the condition "always", wherever the rule's wide form has the operands. -/
def Obligations.NarrowActsAsWide : Prop :=
  ∀ (st : State) (rd rs rn : LoReg) (imm5 : BitVec 5) (imm3 : BitVec 3) (imm8 : BitVec 8) (imm7 : BitVec 7)
    (h1 h2 : Bool) (d s : Reg) (sbz : BitVec 3),
    d = (BitVec.ofBool h1 ++ rd : BitVec 4) → s = (BitVec.ofBool h2 ++ rs : BitVec 4) →
    exec (.tLslImm imm5 rs rd) st = exec (.movRegIs .al true 0 (low rd) imm5 .lsl (low rs)) st ∧
    exec (.tLsrImm imm5 rs rd) st = exec (.movRegIs .al true 0 (low rd) imm5 .lsr (low rs)) st ∧
    exec (.tAsrImm imm5 rs rd) st = exec (.movRegIs .al true 0 (low rd) imm5 .asr (low rs)) st ∧
    exec (.tAddReg rn rs rd) st = exec (.addRegIs .al true (low rs) (low rd) 0 .lsl (low rn)) st ∧
    exec (.tSubReg rn rs rd) st = exec (.subRegIs .al true (low rs) (low rd) 0 .lsl (low rn)) st ∧
    exec (.tAddImm3 imm3 rs rd) st = exec (.addImm .al true (low rs) (low rd) 0 (imm3.setWidth 8)) st ∧
    exec (.tSubImm3 imm3 rs rd) st = exec (.subImm .al true (low rs) (low rd) 0 (imm3.setWidth 8)) st ∧
    exec (.tMovImm8 rd imm8) st = exec (.movImm .al true 0 (low rd) 0 imm8) st ∧
    exec (.tCmpImm8 rd imm8) st = exec (.cmpImm .al (low rd) 0 0 imm8) st ∧
    exec (.tAddImm8 rd imm8) st = exec (.addImm .al true (low rd) (low rd) 0 imm8) st ∧
    exec (.tSubImm8 rd imm8) st = exec (.subImm .al true (low rd) (low rd) 0 imm8) st ∧
    exec (.tAnd rs rd) st = exec (.andRegIs .al true (low rd) (low rd) 0 .lsl (low rs)) st ∧
    exec (.tEor rs rd) st = exec (.eorRegIs .al true (low rd) (low rd) 0 .lsl (low rs)) st ∧
    exec (.tLslReg rs rd) st = exec (.movRegRs .al true 0 (low rd) (low rs) .lsl (low rd)) st ∧
    exec (.tLsrReg rs rd) st = exec (.movRegRs .al true 0 (low rd) (low rs) .lsr (low rd)) st ∧
    exec (.tAsrReg rs rd) st = exec (.movRegRs .al true 0 (low rd) (low rs) .asr (low rd)) st ∧
    exec (.tAdc rs rd) st = exec (.adcRegIs .al true (low rd) (low rd) 0 .lsl (low rs)) st ∧
    exec (.tSbc rs rd) st = exec (.sbcRegIs .al true (low rd) (low rd) 0 .lsl (low rs)) st ∧
    exec (.tRor rs rd) st = exec (.movRegRs .al true 0 (low rd) (low rs) .ror (low rd)) st ∧
    exec (.tTst rs rd) st = exec (.tstRegIs .al (low rd) 0 0 .lsl (low rs)) st ∧
    exec (.tNeg rs rd) st = exec (.rsbImm .al true (low rs) (low rd) 0 0) st ∧
    exec (.tCmpReg rs rd) st = exec (.cmpRegIs .al (low rd) 0 0 .lsl (low rs)) st ∧
    exec (.tCmn rs rd) st = exec (.cmnRegIs .al (low rd) 0 0 .lsl (low rs)) st ∧
    exec (.tOrr rs rd) st = exec (.orrRegIs .al true (low rd) (low rd) 0 .lsl (low rs)) st ∧
    (rd ≠ rs → exec (.tMul rs rd) st = exec (.mul .al true (low rd) 0 (low rd) (low rs)) st) ∧
    exec (.tBic rs rd) st = exec (.bicRegIs .al true (low rd) (low rd) 0 .lsl (low rs)) st ∧
    exec (.tMvn rs rd) st = exec (.mvnRegIs .al true 0 (low rd) 0 .lsl (low rs)) st ∧
    (d ≠ 15 → exec (.tAddHi h1 h2 rs rd) st = exec (.addRegIs .al false d d 0 .lsl s) st) ∧
    exec (.tCmpHi h1 h2 rs rd) st = exec (.cmpRegIs .al d 0 0 .lsl s) st ∧
    (d ≠ 15 → exec (.tMovHi h1 h2 rs rd) st = exec (.movRegIs .al false 0 d 0 .lsl s) st) ∧
    exec (.tBx h2 rs sbz) st = exec (.bx .al s) st ∧
    exec (.tAddSp rd imm8) st = exec (.addImm .al false 13 (low rd) 15 imm8) st ∧
    exec (.tAddSpimm imm7) st = exec (.addImm .al false 13 13 15 (imm7.setWidth 8)) st ∧
    exec (.tSubSpimm imm7) st = exec (.subImm .al false 13 13 15 (imm7.setWidth 8)) st

/-- 48 R370, R371, R375, R376, R378 to R380, R382, R384, R386, R388 and 44 R256: the ten narrow loads from memory: the
loaded value, and nothing else changed; an odd halfword address under the parameter value `refuse` stops by name. -/
def Obligations.NarrowLoadResult : Prop :=
  (∀ (op : TLoad) (ro rb rd : LoReg) (imm5 : BitVec 5) (st : State) (ea : Word), ea = op.address ro imm5 rb st →
    (OddHalf op.kind ea → st.params.oddHalfword = .refuse →
      exec (tLoadInstr op ro imm5 rb rd) st = .refused .oddHalfwordLoad) ∧
    (Readable st.params (op.kind.busAddress ea) → (OddHalf op.kind ea → st.params.oddHalfword = .arm7tdmi) →
      ∃ t, exec (tLoadInstr op ro imm5 rb rd) st = .next t ∧ LoadsAs op.kind st ea (t.reg (low rd)) ∧
        RegsKeptBut [low rd] st t ∧ PcKept st t ∧ t.cpsr = st.cpsr ∧ SystemKept st t ∧ MemKept st t)) ∧
  ∀ (rd : LoReg) (imm8 : BitVec 8) (i : Instr) (st : State) (ea : Word),
    ((i = .tLdrPc rd imm8 ∧ ea = (st.reg 15 &&& 0xFFFFFFFC) + BitVec.ofNat 32 (4 * imm8.toNat)) ∨
      (i = .tLdrSp rd imm8 ∧ ea = st.reg 13 + BitVec.ofNat 32 (4 * imm8.toNat))) →
    Readable st.params (align4 ea) →
    ∃ t, exec i st = .next t ∧ LoadsAs .word st ea (t.reg (low rd)) ∧
      RegsKeptBut [low rd] st t ∧ PcKept st t ∧ t.cpsr = st.cpsr ∧ SystemKept st t ∧ MemKept st t

/-- 48 R373, R374, R377, R381, R383, R385, R387: the seven narrow stores to memory: the stored bytes, every other byte
kept, no register changed. -/
def Obligations.NarrowStoreResult : Prop :=
  (∀ (op : TStore) (ro rb rd : LoReg) (imm5 : BitVec 5) (st : State) (a : Word), Memory.wf st.mem = true →
    a = storeAddress op.bytes (op.address ro imm5 rb st) → InMemory st.params a →
    ∃ t, exec (tStoreInstr op ro imm5 rb rd) st = .next t ∧
      Stored (cellOf st.params a) op.bytes (st.reg (low rd)) st t ∧
      RegsKeptBut [] st t ∧ PcKept st t ∧ t.cpsr = st.cpsr ∧ SystemKept st t) ∧
  ∀ (rd : LoReg) (imm8 : BitVec 8) (st : State) (a : Word), Memory.wf st.mem = true →
    a = align4 (st.reg 13 + BitVec.ofNat 32 (4 * imm8.toNat)) → InMemory st.params a →
    ∃ t, exec (.tStrSp rd imm8) st = .next t ∧ Stored (cellOf st.params a) 4 (st.reg (low rd)) st t ∧
      RegsKeptBut [] st t ∧ PcKept st t ∧ t.cpsr = st.cpsr ∧ SystemKept st t

/-- 48 R405, R407, R410, R411: the fourteen conditional branches, B, and the two halves of BL. -/
def Obligations.NarrowBranchResult : Prop :=
  (∀ (c : Cond) (imm8 : BitVec 8) (i : Instr) (st : State), branchInstr c imm8 = some i →
    ∃ t, exec i st = .next t ∧
      (Cond.holds c st.cpsr = true →
        t.redirected = true ∧ t.reg 15 = st.reg 15 + BitVec.ofInt 32 (2 * imm8.toInt)) ∧
      (Cond.holds c st.cpsr = false → t = st) ∧
      RegsKeptBut [] st t ∧ t.cpsr = st.cpsr ∧ SystemKept st t ∧ MemKept st t) ∧
  ∀ (imm11 : BitVec 11) (st : State),
    (∃ t, exec (.tB imm11) st = .next t ∧ t.redirected = true ∧
      t.reg 15 = st.reg 15 + BitVec.ofInt 32 (2 * imm11.toInt) ∧
      RegsKeptBut [] st t ∧ t.cpsr = st.cpsr ∧ SystemKept st t ∧ MemKept st t) ∧
    (∃ t, exec (.tBlHi imm11) st = .next t ∧ t.reg 14 = st.reg 15 + BitVec.ofInt 32 (4096 * imm11.toInt) ∧
      RegsKeptBut [14] st t ∧ PcKept st t ∧ t.cpsr = st.cpsr ∧ SystemKept st t ∧ MemKept st t) ∧
    ∃ t, exec (.tBlLo imm11) st = .next t ∧ t.redirected = true ∧
      t.reg 15 = st.reg 14 + BitVec.ofNat 32 (2 * imm11.toNat) ∧ t.reg 14 = (st.reg 15 - 2) ||| 1 ∧
      RegsKeptBut [14] st t ∧ t.cpsr = st.cpsr ∧ SystemKept st t ∧ MemKept st t

/-- 48 R412: the two halves of BL in consecutive steps branch to A + 4 plus the joined offset and leave (A + 4) OR 1 in
r14, where x[15] of the first half is A + 4. -/
def Obligations.BranchLinkPair : Prop :=
  ∀ (hi lo : BitVec 11) (st : State), st.redirected = false →
    ∃ t u, exec (.tBlHi hi) st = .next t ∧ exec (.tBlLo lo) (t.finishStep 2) = .next u ∧
      u.reg 15 = st.reg 15 + (hi ++ lo ++ 0#1 : BitVec 23).signExtend 32 ∧ u.reg 14 = st.reg 15 ||| 1 ∧
      u.redirected = true

/-! ## The whole machine -/

/-- The invariant holds at reset. That memory is in canonical form is the model's own choice (log entry 2); the rest is
10_state R56, R60, R64 and 60 R451, R472. -/
def Obligations.ResetInvariant : Prop := State.reset.Inv

/-- Every step keeps the invariant and the parameters. The canonical form of memory and the field of parameters are the
model's own choices (log entries 2 and 4); the rest is 10_state R56, R60 and 60 R451, R472, R478, R488, R489. -/
def Obligations.StepKeepsInvariant : Prop :=
  ∀ s t : State, s.Inv → step s = .next t → t.Inv ∧ t.params = s.params

/-- 60 R460 and R461: no instruction leads out of User mode, or changes its interrupt masks, but by taking an exception;
and, by 10_state R24, R25 and R40, every instruction run in User mode leaves the private registers of the other modes
unchanged in their banks, one that takes an exception among them. -/
def Obligations.UserModeIsConfined : Prop :=
  ∀ (i : Instr) (st t : State), st.cpsr.mode = .user → exec i st = .next t →
    ((t.cpsr.mode = .user ∧ t.cpsr.i = st.cpsr.i ∧ t.cpsr.f = st.cpsr.f) ∨
      ∃ e, (e = .undefined ∨ e = .swi ∨ e = .dataAbort) ∧ t.cpsr = st.handlerStatus e ∧
        t.spsr = st.cpsr.toSaved ∧ t.reg 15 = e.vector ∧ t.redirected = true) ∧
    (∀ b, b ≠ .usr → t.banks.spLr b = st.banks.spLr b ∧ t.banks.spsr b = st.banks.spsr b) ∧
    t.banks.fiqHi = st.banks.fiqHi

/-- 30_encoding R111: the width flag changes only by BX, by a copy of SPSR to CPSR, and by an exception entry, which
clears it. -/
def Obligations.WidthChangesOnlyBy : Prop :=
  ∀ (i : Instr) (st t : State), exec i st = .next t → t.cpsr.t ≠ st.cpsr.t →
    (∃ c rm, i = .bx c rm) ∨ (∃ h rs sbz, i = .tBx h rs sbz) ∨
    (st.cpsr.mode.hasSpsr = true ∧ st.spsr.toStatus = some t.cpsr) ∨
    ∃ e, (e = .undefined ∨ e = .swi ∨ e = .dataAbort) ∧ t.cpsr = st.handlerStatus e ∧ t.cpsr.t = false

/-- When an instruction stops: on an operand combination that WellFormed refuses (93 U5, U7, U8, U11 to U14), for want
of an SPSR (U1), on an illegal mode or a change of T (U2), on an odd halfword load where the parameter says so (U10),
and never otherwise; no instruction faults (00_scope R12). -/
def Obligations.WhenInstructionsStop : Prop :=
  ∀ (i : Instr) (st : State),
    (∀ u, i.unpredictable = some u → (∀ c, condOf i = some c → Cond.holds c st.cpsr = true) →
      exec i st = .refused (.unpredictable u)) ∧
    (∀ r, exec i st ≠ .fault r) ∧
    ∀ r, exec i st = .refused r →
      (∃ u, r = .unpredictable u ∧ i.unpredictable = some u) ∨
      (r = .noSpsr ∧ st.cpsr.mode.hasSpsr = false) ∨ r = .illegalMode ∨ r = .msrChangesWidth ∨
      (r = .oddHalfwordLoad ∧ st.params.oddHalfword = .refuse)

/-! ## Bus and devices (20_memory, 60_exceptions) -/

/-- 20_memory R88 and R89: bytes, halfwords and words of memory share one little-endian store. -/
def Obligations.MixedWidthMemory : Prop :=
  ∀ (s : State) (a v : Word), Memory.wf s.mem = true → a.toNat % 4 = 0 → InMemory s.params a →
    ∃ t, s.store32 a v = some t ∧ t.load32 a = some v ∧
      (∀ k, k < 4 → t.load8 (a + BitVec.ofNat 32 k) = some (v.extractLsb' (8 * k) 8)) ∧
      (∀ j, j < 2 → t.load16 (a + BitVec.ofNat 32 (2 * j)) = some (v.extractLsb' (16 * j) 16)) ∧
      MemKeptOutside (cellOf s.params a) 4 s t

/-- 20_memory R75 and R80: under the default policy an address with bits 31:28 not zero is unmapped: every load fails,
every store is accepted and changes nothing. -/
def Obligations.UnmappedAddresses : Prop :=
  ∀ (s : State) (a : Word), s.params.upperAddr = .unmapped → a.extractLsb' 28 4 ≠ 0 →
    s.load8 a = none ∧ s.load16 a = none ∧ s.load32 a = none ∧
    (∀ v, s.store8 a v = some s) ∧ (∀ v, s.store16 a v = some s) ∧ ∀ v, s.store32 a v = some s

/-- The core's registers on the bus. 20_memory R92 to R94: a byte load is the containing halfword shifted, a byte store
writes one lane and then has the side effect, a word access is two halfword accesses, the lower first. 60 R446 to R448,
R455, R471, R472, R484 to R487: what IE, IF, IME, WAITCNT, POSTFLG, HALTCNT, the DMA and the timer registers give to a
load and take from a store; a store to IE, IF or IME looks for a reason to wake. That the upper half of a word at
0x04000300 belongs to nobody (its load fails, its store is ignored) is the model's own choice (log entry 17). -/
def Obligations.RegistersOnTheBus : Prop :=
  ∀ (s : State) (v : Half) (b : Byte) (x : Word),
    -- loads of halfwords
    s.load16 0x04000200 = some (s.dev.enabled.setWidth 16) ∧ s.load16 0x04000202 = some (s.dev.pending.setWidth 16) ∧
    s.load16 0x04000204 = some s.dev.waitcnt ∧ s.load16 0x04000206 = some 0 ∧
    s.load16 0x04000208 = some ((BitVec.ofBool s.dev.master).setWidth 16) ∧ s.load16 0x0400020A = some 0 ∧
    s.load16 0x04000300 = some (s.dev.postflg.setWidth 16) ∧
    (∀ ch : Fin 4, s.load16 (dmaAddress ch 10) = some (s.dev.dma[ch]).ctrl.toWord ∧
      ∀ k, k < 5 → s.load16 (dmaAddress ch (2 * k)) ≠ none) ∧
    (∀ t : Fin 4, s.load16 (timerAddress t 0) = some (liveCounter s.params s.dev.now t s.dev.timers[t]) ∧
      s.load16 (timerAddress t 2) = some (s.dev.timers[t]).control.toWord) ∧
    -- bytes and words
    (∀ a, CoreRegister a → s.load8 a = (s.load16 (align2 a)).map fun h : Half => BitVec.setWidth 8 (h >>> (8 * (a.toNat % 2)))) ∧
    (∀ a, CoreRegister a → a.toNat % 4 = 0 → a ≠ 0x04000300 →
      (∃ lo hi, s.load16 a = some lo ∧ s.load16 (a + 2) = some hi ∧ s.load32 a = some (hi ++ lo)) ∧
      s.store32 a x = (s.store16 a (x.extractLsb' 0 16)).bind fun t => t.store16 (a + 2) (x.extractLsb' 16 16)) ∧
    s.load32 0x04000300 = none ∧ s.store32 0x04000300 x = s.store16 0x04000300 (x.extractLsb' 0 16) ∧
    -- stores to the Interrupt/Power Controller
    s.store16 0x04000200 v = some (s.withDev (Devices.wakeCheck s.params { s.dev with enabled := v.setWidth 14 })) ∧
    s.store16 0x04000202 v =
      some (s.withDev (Devices.wakeCheck s.params { s.dev with pending := s.dev.pending &&& ~~~(v.setWidth 14) })) ∧
    s.store8 0x04000202 b =
      some (s.withDev (Devices.wakeCheck s.params { s.dev with pending := s.dev.pending &&& ~~~(b.setWidth 14) })) ∧
    s.store8 0x04000203 b = some (s.withDev (Devices.wakeCheck s.params
      { s.dev with pending := s.dev.pending &&& ~~~((b ++ 0#8 : BitVec 16).setWidth 14) })) ∧
    s.store16 0x04000204 v = some (s.withDev { s.dev with waitcnt := v }) ∧
    s.store16 0x04000208 v = some (s.withDev (Devices.wakeCheck s.params { s.dev with master := v.getLsbD 0 })) ∧
    s.store8 0x04000300 b = some (s.withDev { s.dev with postflg := b }) ∧
    s.store8 0x04000301 b = some (s.withDev (s.dev.haltControl b)) ∧
    s.store16 0x04000300 v =
      some (s.withDev (Devices.haltControl (v.extractLsb' 8 8) { s.dev with postflg := v.extractLsb' 0 8 })) ∧
    -- a byte store to a register that reads as it was written is the halfword store of the merged register
    (∀ a h, a = 0x04000200 ∨ a = 0x04000204 ∨ a = 0x04000208 ∨ (∃ ch, a = dmaAddress ch 10) → s.load16 a = some h →
      s.store8 a b = s.store16 a (h.extractLsb' 8 8 ++ b) ∧ s.store8 (a + 1) b = s.store16 a (b ++ h.extractLsb' 0 8)) ∧
    -- stores to the DMA and timer registers
    (∀ ch : Fin 4,
      s.store16 (dmaAddress ch 10) v = some (s.withDev (s.dev.storeDmaControl s.params ch 0xFFFF v)) ∧
      s.store32 (dmaAddress ch 0) x = some (s.withDev (s.dev.setDma ch { s.dev.dma[ch] with sad := x })) ∧
      s.store32 (dmaAddress ch 4) x = some (s.withDev (s.dev.setDma ch { s.dev.dma[ch] with dad := x })) ∧
      s.store16 (dmaAddress ch 8) v = some (s.withDev (s.dev.setDma ch { s.dev.dma[ch] with cnt := v })) ∧
      (∀ k, k < 4 →
        s.store8 (dmaAddress ch k) b =
          some (s.withDev (s.dev.setDma ch { s.dev.dma[ch] with sad := withByte s.dev.dma[ch].sad k b })) ∧
        s.store8 (dmaAddress ch (4 + k)) b =
          some (s.withDev (s.dev.setDma ch { s.dev.dma[ch] with dad := withByte s.dev.dma[ch].dad k b }))) ∧
      ∀ k, k < 2 → s.store8 (dmaAddress ch (8 + k)) b =
        some (s.withDev (s.dev.setDma ch { s.dev.dma[ch] with cnt := withByte s.dev.dma[ch].cnt k b }))) ∧
    ∀ t : Fin 4,
      s.store16 (timerAddress t 0) v = some (s.withDev (s.dev.setTimer t { s.dev.timers[t] with reload := v })) ∧
      (∀ k, k < 2 → s.store8 (timerAddress t k) b =
        some (s.withDev (s.dev.setTimer t { s.dev.timers[t] with reload := withByte s.dev.timers[t].reload k b }))) ∧
      s.store16 (timerAddress t 2) v = some (s.withDev (s.dev.storeTimerControl s.params t 0xFFFF v)) ∧
      s.store8 (timerAddress t 2) b = some (s.withDev (s.dev.storeTimerControl s.params t 0xFFFF (0#8 ++ b))) ∧
      s.store8 (timerAddress t 3) b = some s

/-- 60 R445, R450 to R452: Halt and Stop are entered where no enabled source is pending. A sleeping machine wakes on the
call that completes the wake condition, whether the enable or the raise comes last, or the store to IME; from Stop only a
source of `P_STOP_WAKE_MASK` wakes it; where the condition stays false it sleeps on. -/
def Obligations.HaltAndWake : Prop :=
  ∀ (p : Params) (d : Devices) (v : Byte) (source : Fin 14) (mask : Half),
    (d.enabled &&& d.pending = 0 → (Devices.haltControl v d).power = if v.getLsbD 7 then .stop else .halt) ∧
    (d.enabled &&& d.pending ≠ 0 → Devices.haltControl v d = d) ∧
    ((d.power = .halt ∨ d.power = .stop ∧ p.stopWakeMask.getLsbD source.val = true) →
      (p.wakeRequiresIme = true → d.master = true) → mask.getLsbD source.val = true →
      (Devices.raise p source.val (Devices.storeEnable p 0xFFFF mask d)).power = .run ∧
      (Devices.storeEnable p 0xFFFF mask (Devices.raise p source.val d)).power = .run) ∧
    (d.power = .halt → d.enabled &&& d.pending ≠ 0 → (Devices.storeMaster p 0xFFFF 1 d).power = .run) ∧
    (d.power = .stop → d.enabled &&& d.pending &&& p.stopWakeMask ≠ 0 →
      (Devices.storeMaster p 0xFFFF 1 d).power = .run) ∧
    (d.power ≠ .run → p.wakeRequiresIme = true → d.master = false →
      (Devices.raise p source.val d).power = d.power ∧ (Devices.storeEnable p 0xFFFF mask d).power = d.power) ∧
    (d.power = .halt → d.enabled &&& d.pending = 0 → d.enabled.getLsbD source.val = false →
      (Devices.raise p source.val d).power = .halt) ∧
    (d.power = .stop → d.enabled &&& d.pending &&& p.stopWakeMask = 0 →
      (d.enabled.getLsbD source.val = false ∨ p.stopWakeMask.getLsbD source.val = false) →
      (Devices.raise p source.val d).power = .stop)

/-- 60 R472 to R478: a DMA channel. A store to CTRL that enables it latches the working copies, CNT masked or, where that
is 0, the count for 0; an immediate trigger activates it at once, a signal where the trigger matches. Its step moves all
its units from memory to memory, each side stepping by its address mode, aligned to the unit; a unit reads what the units
before it left. At the end it is inactive, with its interrupt raised if it has one, and disabled unless it repeats: then
its count is latched anew, and its destination too in the reload mode. R481: the documented transfer (CTRL = 0xC400). -/
def Obligations.DmaTransfer : Prop :=
  (∀ (p : Params) (d : Devices) (ch : Fin 4) (v : Half) (c c' : DmaChannel),
    c = d.dma[ch] → c' = (d.storeDmaControl p ch 0xFFFF v).dma[ch] →
    c'.ctrl.toWord = v &&& 0xFFE0 ∧ c'.sad = c.sad ∧ c'.dad = c.dad ∧ c'.cnt = c.cnt ∧
    (c.ctrl.enable = false → v.getLsbD 15 = true →
      c'.src = c.sad ∧ c'.dst = c.dad ∧ c'.remaining = dmaCount p ch c) ∧
    (c.ctrl.enable = true ∨ v.getLsbD 15 = false → c'.src = c.src ∧ c'.dst = c.dst ∧ c'.remaining = c.remaining) ∧
    c'.active = (v.getLsbD 15 && (c.active || v.extractLsb' 12 2 == 0))) ∧
  (∀ (p : Params) (d : Devices) (ch fifo : Fin 4) (line : Nat),
    (d.signalVblank.dma[ch]) = (d.dma[ch]).armedIf (d.dma[ch].ctrl.trigger = .vblank) ∧
    ((d.signalHblank p line).dma[ch]) = (d.dma[ch]).armedIf (d.dma[ch].ctrl.trigger = .hblank ∨
      ch = 3 ∧ d.dma[ch].ctrl.trigger = .special ∧ p.firstVisibleLine ≤ line ∧ line ≤ p.lastVisibleLine) ∧
    ((Devices.fifoRefresh fifo d).dma[ch]) =
      (d.dma[ch]).armedIf (ch = fifo ∧ (ch = 1 ∨ ch = 2) ∧ d.dma[ch].ctrl.trigger = .special)) ∧
  (∀ (s t : State) (ch : Fin 4) (c c' : DmaChannel) (u : Nat) (sa da : Nat → Word),
    c = s.dev.dma[ch] → t = s.dmaStep ch → c' = t.dev.dma[ch] → u = (if c.ctrl.isWord then 4 else 2) →
    (∀ k, sa k = storeAddress u (c.ctrl.srcMode.at c.src u k)) →
    (∀ k, da k = storeAddress u (c.ctrl.dstMode.at c.dst u k)) →
    Memory.wf s.mem = true → (∀ k, k < c.remaining → Readable s.params (sa k)) →
    (∀ k, k < c.remaining → InMemory s.params (da k)) →
    (∀ j k, j < k → k < c.remaining → cellOf s.params (da j) ≠ cellOf s.params (sa k)) →
    (∀ k b, k < c.remaining → b < u →
      (∀ j, k < j → j < c.remaining → cellOf s.params (da j) ≠ cellOf s.params (da k)) →
      Memory.read t.mem (cellOf s.params (da k) + b) = Memory.read s.mem (cellOf s.params (sa k) + b)) ∧
    (∀ x, (∀ k, k < c.remaining → x < cellOf s.params (da k) ∨ cellOf s.params (da k) + u ≤ x) →
      Memory.read t.mem x = Memory.read s.mem x) ∧
    c'.active = false ∧ c'.src = c.ctrl.srcMode.at c.src u c.remaining ∧
    c'.sad = c.sad ∧ c'.dad = c.dad ∧ c'.cnt = c.cnt ∧
    (c.ctrl.repeats = false → c'.ctrl = { c.ctrl with enable := false }) ∧
    (c.ctrl.repeats = true → c'.ctrl = c.ctrl ∧ c'.remaining = dmaCount s.params ch c) ∧
    c'.dst = (if c.ctrl.repeats = true ∧ c.ctrl.dstMode = .reload then c.dad
      else c.ctrl.dstMode.at c.dst u c.remaining) ∧
    (c.ctrl.irq = true → t.dev.pending = s.dev.pending ||| BitVec.twoPow 14 (8 + ch.val)) ∧
    (c.ctrl.irq = false → t.dev.pending = s.dev.pending) ∧
    (∀ j, j ≠ ch → t.dev.dma[j] = s.dev.dma[j]) ∧ t.regs = s.regs ∧ t.cpsr = s.cpsr ∧ t.spsr = s.spsr ∧
    t.banks = s.banks) ∧
  ∀ (s t : State) (ch : Fin 4) (d : Devices),
    (s.dev.dma[ch]).ctrl.enable = false → (s.dev.dma[ch]).cnt = 2 → s.params.dmaCountMask[ch] &&& 2 = 2 →
    Memory.wf s.mem = true → (s.dev.dma[ch]).sad.toNat % 4 = 0 → (s.dev.dma[ch]).dad.toNat % 4 = 0 →
    Readable s.params (s.dev.dma[ch]).sad → Readable s.params ((s.dev.dma[ch]).sad + 4) →
    InMemory s.params (s.dev.dma[ch]).dad → InMemory s.params ((s.dev.dma[ch]).dad + 4) →
    cellOf s.params ((s.dev.dma[ch]).sad + 4) ≠ cellOf s.params (s.dev.dma[ch]).dad →
    cellOf s.params ((s.dev.dma[ch]).dad + 4) ≠ cellOf s.params (s.dev.dma[ch]).dad →
    d = s.dev.storeDmaControl s.params ch 0xFFFF 0xC400 → t = State.dmaStep (s.withDev d) ch →
    (d.dma[ch]).active = true ∧
    Memory.read32 t.mem (cellOf s.params (s.dev.dma[ch]).dad) =
      Memory.read32 s.mem (cellOf s.params (s.dev.dma[ch]).sad) ∧
    Memory.read32 t.mem (cellOf s.params ((s.dev.dma[ch]).dad + 4)) =
      Memory.read32 s.mem (cellOf s.params ((s.dev.dma[ch]).sad + 4)) ∧
    (t.dev.dma[ch]).active = false ∧ (t.dev.dma[ch]).ctrl.toWord = 0x4400 ∧
    t.dev.pending.getLsbD (8 + ch.val) = true

/-- 60 R488 to R491: timer 0 alone, started from reload 0 at one cycle per tick, overflows once in 65536 cycles: before
that its live counter is the number of cycles, from then on it has told the audio mixer exactly once. -/
def Obligations.TimerCounts65536 : Prop :=
  ∀ (p : Params) (d d' : Devices) (elapsed : Nat),
    p.prescaler[0] = 1 → (d.timers[0]).control.start = false → (d.timers[0]).reload = 0 →
    (∀ t : Fin 4, t ≠ 0 → (d.timers[t]).control.start = false) → d.notices = [] →
    d' = Devices.timerStep p elapsed (Devices.storeTimerControl p 0 0xFFFF 0x0080 d) →
    (elapsed < 65536 → d'.notices = [] ∧ liveCounter p d'.now 0 d'.timers[0] = BitVec.ofNat 16 elapsed) ∧
    (65536 ≤ elapsed → elapsed < 131072 → d'.notices = [0] ∧
      liveCounter p d'.now 0 d'.timers[0] = BitVec.ofNat 16 (elapsed - 65536)) ∧
    d'.now = d.now + elapsed

/-- 60 R491 and R493: an overflow reloads the channel; a started cascaded next channel counts up by exactly one, and
reloads where it wraps; a next channel that is not started or not cascaded does not count. -/
def Obligations.CascadeCountsOverflows : Prop :=
  ∀ (p : Params) (d : Devices) (t u : Fin 4) (at' : Nat), u.val = t.val + 1 →
    ((Devices.overflow p t at' d).timers[t]).counter = (d.timers[t]).reload ∧
    ((d.timers[u]).control.start = true → (d.timers[u]).control.cascade = true → (d.timers[u]).counter ≠ 0xFFFF →
      ((Devices.overflow p t at' d).timers[u]).counter = (d.timers[u]).counter + 1) ∧
    ((d.timers[u]).control.start = true → (d.timers[u]).control.cascade = true → (d.timers[u]).counter = 0xFFFF →
      ((Devices.overflow p t at' d).timers[u]).counter = (d.timers[u]).reload) ∧
    (¬((d.timers[u]).control.start = true ∧ (d.timers[u]).control.cascade = true) →
      (Devices.overflow p t at' d).timers[u] = d.timers[u])
end

