-- ==== Sys2Proof/Laws/State.lean ====
section
/-! SUPPORT. One lemma for each field and each update of State, so that no proof unfolds a record update. -/

namespace Sys2Proof.Machine

/-! ## setReg -/

@[simp] theorem State.setReg_cpsr (s : State) (r : Reg) (v : Word) : (s.setReg r v).cpsr = s.cpsr := rfl
@[simp] theorem State.setReg_spsr (s : State) (r : Reg) (v : Word) : (s.setReg r v).spsr = s.spsr := rfl
@[simp] theorem State.setReg_banks (s : State) (r : Reg) (v : Word) : (s.setReg r v).banks = s.banks := rfl
@[simp] theorem State.setReg_redirected (s : State) (r : Reg) (v : Word) : (s.setReg r v).redirected = s.redirected := rfl
@[simp] theorem State.setReg_dev (s : State) (r : Reg) (v : Word) : (s.setReg r v).dev = s.dev := rfl
@[simp] theorem State.setReg_mem (s : State) (r : Reg) (v : Word) : (s.setReg r v).mem = s.mem := rfl
@[simp] theorem State.setReg_nodeStores (s : State) (r : Reg) (v : Word) : (s.setReg r v).nodeStores = s.nodeStores := rfl
@[simp] theorem State.setReg_hostCalls (s : State) (r : Reg) (v : Word) : (s.setReg r v).hostCalls = s.hostCalls := rfl
@[simp] theorem State.setReg_draws (s : State) (r : Reg) (v : Word) : (s.setReg r v).draws = s.draws := rfl
@[simp] theorem State.setReg_params (s : State) (r : Reg) (v : Word) : (s.setReg r v).params = s.params := rfl

/-! ## branchTo -/

@[simp] theorem State.branchTo_cpsr (s : State) (v : Word) : (s.branchTo v).cpsr = s.cpsr := rfl
@[simp] theorem State.branchTo_spsr (s : State) (v : Word) : (s.branchTo v).spsr = s.spsr := rfl
@[simp] theorem State.branchTo_banks (s : State) (v : Word) : (s.branchTo v).banks = s.banks := rfl
@[simp] theorem State.branchTo_dev (s : State) (v : Word) : (s.branchTo v).dev = s.dev := rfl
@[simp] theorem State.branchTo_mem (s : State) (v : Word) : (s.branchTo v).mem = s.mem := rfl
@[simp] theorem State.branchTo_nodeStores (s : State) (v : Word) : (s.branchTo v).nodeStores = s.nodeStores := rfl
@[simp] theorem State.branchTo_hostCalls (s : State) (v : Word) : (s.branchTo v).hostCalls = s.hostCalls := rfl
@[simp] theorem State.branchTo_draws (s : State) (v : Word) : (s.branchTo v).draws = s.draws := rfl
@[simp] theorem State.branchTo_params (s : State) (v : Word) : (s.branchTo v).params = s.params := rfl

/-! ## setFlags -/

@[simp] theorem State.setFlags_regs (s : State) (n z c v : Bool) : (s.setFlags n z c v).regs = s.regs := rfl
@[simp] theorem State.setFlags_spsr (s : State) (n z c v : Bool) : (s.setFlags n z c v).spsr = s.spsr := rfl
@[simp] theorem State.setFlags_banks (s : State) (n z c v : Bool) : (s.setFlags n z c v).banks = s.banks := rfl
@[simp] theorem State.setFlags_redirected (s : State) (n z c v : Bool) : (s.setFlags n z c v).redirected = s.redirected := rfl
@[simp] theorem State.setFlags_dev (s : State) (n z c v : Bool) : (s.setFlags n z c v).dev = s.dev := rfl
@[simp] theorem State.setFlags_mem (s : State) (n z c v : Bool) : (s.setFlags n z c v).mem = s.mem := rfl
@[simp] theorem State.setFlags_nodeStores (s : State) (n z c v : Bool) : (s.setFlags n z c v).nodeStores = s.nodeStores := rfl
@[simp] theorem State.setFlags_hostCalls (s : State) (n z c v : Bool) : (s.setFlags n z c v).hostCalls = s.hostCalls := rfl
@[simp] theorem State.setFlags_draws (s : State) (n z c v : Bool) : (s.setFlags n z c v).draws = s.draws := rfl
@[simp] theorem State.setFlags_params (s : State) (n z c v : Bool) : (s.setFlags n z c v).params = s.params := rfl

/-! ## setAluFlags -/

@[simp] theorem State.setAluFlags_regs (s : State) (x : Alu) : (s.setAluFlags x).regs = s.regs := rfl
@[simp] theorem State.setAluFlags_spsr (s : State) (x : Alu) : (s.setAluFlags x).spsr = s.spsr := rfl
@[simp] theorem State.setAluFlags_banks (s : State) (x : Alu) : (s.setAluFlags x).banks = s.banks := rfl
@[simp] theorem State.setAluFlags_redirected (s : State) (x : Alu) : (s.setAluFlags x).redirected = s.redirected := rfl
@[simp] theorem State.setAluFlags_dev (s : State) (x : Alu) : (s.setAluFlags x).dev = s.dev := rfl
@[simp] theorem State.setAluFlags_mem (s : State) (x : Alu) : (s.setAluFlags x).mem = s.mem := rfl
@[simp] theorem State.setAluFlags_nodeStores (s : State) (x : Alu) : (s.setAluFlags x).nodeStores = s.nodeStores := rfl
@[simp] theorem State.setAluFlags_hostCalls (s : State) (x : Alu) : (s.setAluFlags x).hostCalls = s.hostCalls := rfl
@[simp] theorem State.setAluFlags_draws (s : State) (x : Alu) : (s.setAluFlags x).draws = s.draws := rfl
@[simp] theorem State.setAluFlags_params (s : State) (x : Alu) : (s.setAluFlags x).params = s.params := rfl

/-! ## setMulFlags -/

@[simp] theorem State.setMulFlags_regs (s : State) (r : Word) : (s.setMulFlags r).regs = s.regs := rfl
@[simp] theorem State.setMulFlags_spsr (s : State) (r : Word) : (s.setMulFlags r).spsr = s.spsr := rfl
@[simp] theorem State.setMulFlags_banks (s : State) (r : Word) : (s.setMulFlags r).banks = s.banks := rfl
@[simp] theorem State.setMulFlags_redirected (s : State) (r : Word) : (s.setMulFlags r).redirected = s.redirected := rfl
@[simp] theorem State.setMulFlags_dev (s : State) (r : Word) : (s.setMulFlags r).dev = s.dev := rfl
@[simp] theorem State.setMulFlags_mem (s : State) (r : Word) : (s.setMulFlags r).mem = s.mem := rfl
@[simp] theorem State.setMulFlags_nodeStores (s : State) (r : Word) : (s.setMulFlags r).nodeStores = s.nodeStores := rfl
@[simp] theorem State.setMulFlags_hostCalls (s : State) (r : Word) : (s.setMulFlags r).hostCalls = s.hostCalls := rfl
@[simp] theorem State.setMulFlags_draws (s : State) (r : Word) : (s.setMulFlags r).draws = s.draws := rfl
@[simp] theorem State.setMulFlags_params (s : State) (r : Word) : (s.setMulFlags r).params = s.params := rfl

/-! ## setLongFlags -/

@[simp] theorem State.setLongFlags_regs (s : State) (r : BitVec 64) : (s.setLongFlags r).regs = s.regs := rfl
@[simp] theorem State.setLongFlags_spsr (s : State) (r : BitVec 64) : (s.setLongFlags r).spsr = s.spsr := rfl
@[simp] theorem State.setLongFlags_banks (s : State) (r : BitVec 64) : (s.setLongFlags r).banks = s.banks := rfl
@[simp] theorem State.setLongFlags_redirected (s : State) (r : BitVec 64) : (s.setLongFlags r).redirected = s.redirected := rfl
@[simp] theorem State.setLongFlags_dev (s : State) (r : BitVec 64) : (s.setLongFlags r).dev = s.dev := rfl
@[simp] theorem State.setLongFlags_mem (s : State) (r : BitVec 64) : (s.setLongFlags r).mem = s.mem := rfl
@[simp] theorem State.setLongFlags_nodeStores (s : State) (r : BitVec 64) : (s.setLongFlags r).nodeStores = s.nodeStores := rfl
@[simp] theorem State.setLongFlags_hostCalls (s : State) (r : BitVec 64) : (s.setLongFlags r).hostCalls = s.hostCalls := rfl
@[simp] theorem State.setLongFlags_draws (s : State) (r : BitVec 64) : (s.setLongFlags r).draws = s.draws := rfl
@[simp] theorem State.setLongFlags_params (s : State) (r : BitVec 64) : (s.setLongFlags r).params = s.params := rfl

/-! ## drawn -/

@[simp] theorem State.drawn_regs (s : State) : (s.drawn).regs = s.regs := rfl
@[simp] theorem State.drawn_cpsr (s : State) : (s.drawn).cpsr = s.cpsr := rfl
@[simp] theorem State.drawn_spsr (s : State) : (s.drawn).spsr = s.spsr := rfl
@[simp] theorem State.drawn_banks (s : State) : (s.drawn).banks = s.banks := rfl
@[simp] theorem State.drawn_redirected (s : State) : (s.drawn).redirected = s.redirected := rfl
@[simp] theorem State.drawn_dev (s : State) : (s.drawn).dev = s.dev := rfl
@[simp] theorem State.drawn_mem (s : State) : (s.drawn).mem = s.mem := rfl
@[simp] theorem State.drawn_nodeStores (s : State) : (s.drawn).nodeStores = s.nodeStores := rfl
@[simp] theorem State.drawn_hostCalls (s : State) : (s.drawn).hostCalls = s.hostCalls := rfl
@[simp] theorem State.drawn_params (s : State) : (s.drawn).params = s.params := rfl

/-! ## alignPc -/

@[simp] theorem State.alignPc_cpsr (s : State) : (s.alignPc).cpsr = s.cpsr := rfl
@[simp] theorem State.alignPc_spsr (s : State) : (s.alignPc).spsr = s.spsr := rfl
@[simp] theorem State.alignPc_banks (s : State) : (s.alignPc).banks = s.banks := rfl
@[simp] theorem State.alignPc_redirected (s : State) : (s.alignPc).redirected = s.redirected := rfl
@[simp] theorem State.alignPc_dev (s : State) : (s.alignPc).dev = s.dev := rfl
@[simp] theorem State.alignPc_mem (s : State) : (s.alignPc).mem = s.mem := rfl
@[simp] theorem State.alignPc_nodeStores (s : State) : (s.alignPc).nodeStores = s.nodeStores := rfl
@[simp] theorem State.alignPc_hostCalls (s : State) : (s.alignPc).hostCalls = s.hostCalls := rfl
@[simp] theorem State.alignPc_draws (s : State) : (s.alignPc).draws = s.draws := rfl
@[simp] theorem State.alignPc_params (s : State) : (s.alignPc).params = s.params := rfl

/-! ## prepared -/

@[simp] theorem State.prepared_cpsr (s : State) : (s.prepared).cpsr = s.cpsr := rfl
@[simp] theorem State.prepared_spsr (s : State) : (s.prepared).spsr = s.spsr := rfl
@[simp] theorem State.prepared_banks (s : State) : (s.prepared).banks = s.banks := rfl
@[simp] theorem State.prepared_dev (s : State) : (s.prepared).dev = s.dev := rfl
@[simp] theorem State.prepared_mem (s : State) : (s.prepared).mem = s.mem := rfl
@[simp] theorem State.prepared_nodeStores (s : State) : (s.prepared).nodeStores = s.nodeStores := rfl
@[simp] theorem State.prepared_hostCalls (s : State) : (s.prepared).hostCalls = s.hostCalls := rfl
@[simp] theorem State.prepared_draws (s : State) : (s.prepared).draws = s.draws := rfl
@[simp] theorem State.prepared_params (s : State) : (s.prepared).params = s.params := rfl

/-! ## setHi -/

@[simp] theorem State.setHi_cpsr (s : State) (h : Vector Word 5) : (s.setHi h).cpsr = s.cpsr := rfl
@[simp] theorem State.setHi_spsr (s : State) (h : Vector Word 5) : (s.setHi h).spsr = s.spsr := rfl
@[simp] theorem State.setHi_banks (s : State) (h : Vector Word 5) : (s.setHi h).banks = s.banks := rfl
@[simp] theorem State.setHi_redirected (s : State) (h : Vector Word 5) : (s.setHi h).redirected = s.redirected := rfl
@[simp] theorem State.setHi_dev (s : State) (h : Vector Word 5) : (s.setHi h).dev = s.dev := rfl
@[simp] theorem State.setHi_mem (s : State) (h : Vector Word 5) : (s.setHi h).mem = s.mem := rfl
@[simp] theorem State.setHi_nodeStores (s : State) (h : Vector Word 5) : (s.setHi h).nodeStores = s.nodeStores := rfl
@[simp] theorem State.setHi_hostCalls (s : State) (h : Vector Word 5) : (s.setHi h).hostCalls = s.hostCalls := rfl
@[simp] theorem State.setHi_draws (s : State) (h : Vector Word 5) : (s.setHi h).draws = s.draws := rfl
@[simp] theorem State.setHi_params (s : State) (h : Vector Word 5) : (s.setHi h).params = s.params := rfl

/-! ## saveBank -/

@[simp] theorem State.saveBank_regs (s : State) (ob nb : Bank) : (s.saveBank ob nb).regs = s.regs := rfl
@[simp] theorem State.saveBank_cpsr (s : State) (ob nb : Bank) : (s.saveBank ob nb).cpsr = s.cpsr := rfl
@[simp] theorem State.saveBank_spsr (s : State) (ob nb : Bank) : (s.saveBank ob nb).spsr = s.spsr := rfl
@[simp] theorem State.saveBank_redirected (s : State) (ob nb : Bank) : (s.saveBank ob nb).redirected = s.redirected := rfl
@[simp] theorem State.saveBank_dev (s : State) (ob nb : Bank) : (s.saveBank ob nb).dev = s.dev := rfl
@[simp] theorem State.saveBank_mem (s : State) (ob nb : Bank) : (s.saveBank ob nb).mem = s.mem := rfl
@[simp] theorem State.saveBank_nodeStores (s : State) (ob nb : Bank) : (s.saveBank ob nb).nodeStores = s.nodeStores := rfl
@[simp] theorem State.saveBank_hostCalls (s : State) (ob nb : Bank) : (s.saveBank ob nb).hostCalls = s.hostCalls := rfl
@[simp] theorem State.saveBank_draws (s : State) (ob nb : Bank) : (s.saveBank ob nb).draws = s.draws := rfl
@[simp] theorem State.saveBank_params (s : State) (ob nb : Bank) : (s.saveBank ob nb).params = s.params := rfl

/-! ## setDma -/

@[simp] theorem State.setDma_regs (s : State) (ch : Fin 4) (c : DmaChannel) : (s.setDma ch c).regs = s.regs := rfl
@[simp] theorem State.setDma_cpsr (s : State) (ch : Fin 4) (c : DmaChannel) : (s.setDma ch c).cpsr = s.cpsr := rfl
@[simp] theorem State.setDma_spsr (s : State) (ch : Fin 4) (c : DmaChannel) : (s.setDma ch c).spsr = s.spsr := rfl
@[simp] theorem State.setDma_banks (s : State) (ch : Fin 4) (c : DmaChannel) : (s.setDma ch c).banks = s.banks := rfl
@[simp] theorem State.setDma_redirected (s : State) (ch : Fin 4) (c : DmaChannel) : (s.setDma ch c).redirected = s.redirected := rfl
@[simp] theorem State.setDma_mem (s : State) (ch : Fin 4) (c : DmaChannel) : (s.setDma ch c).mem = s.mem := rfl
@[simp] theorem State.setDma_nodeStores (s : State) (ch : Fin 4) (c : DmaChannel) : (s.setDma ch c).nodeStores = s.nodeStores := rfl
@[simp] theorem State.setDma_hostCalls (s : State) (ch : Fin 4) (c : DmaChannel) : (s.setDma ch c).hostCalls = s.hostCalls := rfl
@[simp] theorem State.setDma_draws (s : State) (ch : Fin 4) (c : DmaChannel) : (s.setDma ch c).draws = s.draws := rfl
@[simp] theorem State.setDma_params (s : State) (ch : Fin 4) (c : DmaChannel) : (s.setDma ch c).params = s.params := rfl

/-! ## timerPhase -/

@[simp] theorem State.timerPhase_regs (s : State) : (s.timerPhase).regs = s.regs := rfl
@[simp] theorem State.timerPhase_cpsr (s : State) : (s.timerPhase).cpsr = s.cpsr := rfl
@[simp] theorem State.timerPhase_spsr (s : State) : (s.timerPhase).spsr = s.spsr := rfl
@[simp] theorem State.timerPhase_banks (s : State) : (s.timerPhase).banks = s.banks := rfl
@[simp] theorem State.timerPhase_redirected (s : State) : (s.timerPhase).redirected = s.redirected := rfl
@[simp] theorem State.timerPhase_mem (s : State) : (s.timerPhase).mem = s.mem := rfl
@[simp] theorem State.timerPhase_nodeStores (s : State) : (s.timerPhase).nodeStores = s.nodeStores := rfl
@[simp] theorem State.timerPhase_hostCalls (s : State) : (s.timerPhase).hostCalls = s.hostCalls := rfl
@[simp] theorem State.timerPhase_params (s : State) : (s.timerPhase).params = s.params := rfl

/-! ## readyToFetch -/

@[simp] theorem State.readyToFetch_regs (s : State) (narrow : Bool) : (s.readyToFetch narrow).regs = s.regs := rfl
@[simp] theorem State.readyToFetch_spsr (s : State) (narrow : Bool) : (s.readyToFetch narrow).spsr = s.spsr := rfl
@[simp] theorem State.readyToFetch_banks (s : State) (narrow : Bool) : (s.readyToFetch narrow).banks = s.banks := rfl
@[simp] theorem State.readyToFetch_redirected (s : State) (narrow : Bool) : (s.readyToFetch narrow).redirected = s.redirected := rfl
@[simp] theorem State.readyToFetch_mem (s : State) (narrow : Bool) : (s.readyToFetch narrow).mem = s.mem := rfl
@[simp] theorem State.readyToFetch_nodeStores (s : State) (narrow : Bool) : (s.readyToFetch narrow).nodeStores = s.nodeStores := rfl
@[simp] theorem State.readyToFetch_hostCalls (s : State) (narrow : Bool) : (s.readyToFetch narrow).hostCalls = s.hostCalls := rfl
@[simp] theorem State.readyToFetch_draws (s : State) (narrow : Bool) : (s.readyToFetch narrow).draws = s.draws := rfl
@[simp] theorem State.readyToFetch_params (s : State) (narrow : Bool) : (s.readyToFetch narrow).params = s.params := rfl

/-! ## The changed fields -/

@[simp] theorem State.setReg_regs (s : State) (r : Reg) (v : Word) :
    (s.setReg r v).regs = s.regs.set r.toNat v r.isLt := rfl

@[simp] theorem State.branchTo_redirected (s : State) (v : Word) : (s.branchTo v).redirected = true := rfl

@[simp] theorem State.prepared_redirected (s : State) : s.prepared.redirected = false := rfl

@[simp] theorem State.drawn_draws (s : State) : s.drawn.draws = s.draws + 1 := rfl

@[simp] theorem State.setFlags_cpsr (s : State) (n z c v : Bool) :
    (s.setFlags n z c v).cpsr = { s.cpsr with n := n, z := z, c := c, v := v } := rfl

@[simp] theorem State.setAluFlags_cpsr (s : State) (x : Alu) :
    (s.setAluFlags x).cpsr =
      { s.cpsr with n := x.result.msb, z := x.result == 0, c := x.carry, v := x.overflow } := rfl

@[simp] theorem State.setMulFlags_cpsr (s : State) (r : Word) :
    (s.setMulFlags r).cpsr =
      { s.cpsr with n := r.msb, z := r == 0, c := Config.mulCarry s.draws, v := s.cpsr.v } := rfl

@[simp] theorem State.setLongFlags_cpsr (s : State) (r : BitVec 64) :
    (s.setLongFlags r).cpsr =
      { s.cpsr with
        n := r.msb, z := r == 0, c := Config.mulCarry s.draws, v := Config.mulOverflow s.draws } := rfl

/-! ## Registers -/

theorem State.reg_setReg (s : State) (r q : Reg) (v : Word) :
    (s.setReg r v).reg q = if q = r then v else s.reg q := by
  simp only [State.reg, State.setReg, Vector.getElem_set]
  by_cases h : q = r
  · simp [h]
  · have : ¬ r.toNat = q.toNat := fun e => h (BitVec.eq_of_toNat_eq e.symm)
    simp [h, this]

@[simp] theorem State.reg_setReg_self (s : State) (r : Reg) (v : Word) : (s.setReg r v).reg r = v := by
  simp [State.reg_setReg]

theorem State.reg_setReg_ne (s : State) {r q : Reg} (v : Word) (h : q ≠ r) : (s.setReg r v).reg q = s.reg q := by
  simp [State.reg_setReg, h]

@[simp] theorem State.reg_branchTo (s : State) (q : Reg) (v : Word) :
    (s.branchTo v).reg q = if q = 15 then v else s.reg q := State.reg_setReg s 15 q v

@[simp] theorem State.reg_setFlags (s : State) (q : Reg) (n z c v : Bool) : (s.setFlags n z c v).reg q = s.reg q := rfl

@[simp] theorem State.reg_setAluFlags (s : State) (q : Reg) (x : Alu) : (s.setAluFlags x).reg q = s.reg q := rfl

@[simp] theorem State.reg_setMulFlags (s : State) (q : Reg) (r : Word) : (s.setMulFlags r).reg q = s.reg q := rfl

@[simp] theorem State.reg_setLongFlags (s : State) (q : Reg) (r : BitVec 64) : (s.setLongFlags r).reg q = s.reg q := rfl

@[simp] theorem State.reg_drawn (s : State) (q : Reg) : s.drawn.reg q = s.reg q := rfl

@[simp] theorem State.reg_saveBank (s : State) (q : Reg) (ob nb : Bank) : (s.saveBank ob nb).reg q = s.reg q := rfl

/-- A write of r15 through `writeReg` is a branch, any other write a register write. -/
theorem State.writeReg_eq (s : State) (r : Reg) (v : Word) :
    (r = 15 ∧ s.writeReg r v = s.branchTo v) ∨ (r ≠ 15 ∧ s.writeReg r v = s.setReg r v) := by
  by_cases h : r = 15
  · exact .inl ⟨h, if_pos h⟩
  · exact .inr ⟨h, if_neg h⟩

/-- A low register is none of r8 to r15. -/
theorem low_lt (r : LoReg) : (low r).toNat < 8 := by
  simp only [low, BitVec.toNat_setWidth]; omega

theorem low_ne_pc (r : LoReg) : low r ≠ 15 := by
  intro h; have := low_lt r; rw [h] at this; exact absurd this (by decide)

theorem low_injective {r q : LoReg} (h : low r = low q) : r = q := by
  apply BitVec.eq_of_toNat_eq
  have := congrArg BitVec.toNat h
  simp only [low, BitVec.toNat_setWidth] at this
  omega

end Sys2Proof.Machine
end

