-- ==== Sys2Proof/Laws/Banks.lean ====
section
/-! SUPPORT. What `load_status`, exception entry and exception return do to each cell (10_state R40, 60 R421, R436). -/

namespace Sys2Proof.Machine

/-! ## load_status -/

@[simp] theorem State.loadStatus_cpsr (s : State) (new : Status) : (s.loadStatus new).cpsr = new := by
  simp only [State.loadStatus]

/-- `load_status` between two modes of one bank moves no register and installs the word. -/
theorem State.loadStatus_same (s : State) (new : Status) (h : s.cpsr.mode.bank = new.mode.bank) :
    s.loadStatus new = { s with cpsr := new } := by
  simp [State.loadStatus, h]

theorem State.loadStatus_change (s : State) (new : Status) (h : s.cpsr.mode.bank ≠ new.mode.bank) :
    s.loadStatus new =
      { (s.saveBank s.cpsr.mode.bank new.mode.bank).loadBank s.cpsr.mode.bank new.mode.bank with cpsr := new } := by
  simp [State.loadStatus, h]

/-- What `load_status` leaves alone. -/
theorem State.loadStatus_frame (s : State) (new : Status) :
    (s.loadStatus new).redirected = s.redirected ∧ (s.loadStatus new).dev = s.dev ∧
      (s.loadStatus new).mem = s.mem ∧ (s.loadStatus new).hostCalls = s.hostCalls ∧
      (s.loadStatus new).draws = s.draws ∧ (s.loadStatus new).params = s.params := by
  by_cases h : s.cpsr.mode.bank = new.mode.bank
  · rw [State.loadStatus_same s new h]; exact ⟨rfl, rfl, rfl, rfl, rfl, rfl⟩
  · rw [State.loadStatus_change s new h]
    simp only [State.loadBank, State.saveBank]
    refine ⟨?_, ?_, ?_, ?_, ?_, ?_⟩ <;> split <;> split <;> rfl

@[simp] theorem State.loadStatus_redirected (s : State) (new : Status) :
    (s.loadStatus new).redirected = s.redirected := (s.loadStatus_frame new).1

@[simp] theorem State.loadStatus_dev (s : State) (new : Status) : (s.loadStatus new).dev = s.dev :=
  (s.loadStatus_frame new).2.1

@[simp] theorem State.loadStatus_mem (s : State) (new : Status) : (s.loadStatus new).mem = s.mem :=
  (s.loadStatus_frame new).2.2.1

@[simp] theorem State.loadStatus_hostCalls (s : State) (new : Status) :
    (s.loadStatus new).hostCalls = s.hostCalls := (s.loadStatus_frame new).2.2.2.1

@[simp] theorem State.loadStatus_draws (s : State) (new : Status) : (s.loadStatus new).draws = s.draws :=
  (s.loadStatus_frame new).2.2.2.2.1

@[simp] theorem State.loadStatus_params (s : State) (new : Status) : (s.loadStatus new).params = s.params :=
  (s.loadStatus_frame new).2.2.2.2.2

/-- r8 to r12 on the way from bank `ob` to bank `nb` (10_state R40). -/
def State.hiMoved (s : State) (ob nb : Bank) : State :=
  let s := if ob = .fiq then s.setHi s.banks.usrHi else s
  if nb = .fiq then s.setHi s.banks.fiqHi else s

theorem State.reg_setHi_ne (s : State) (v : Vector Word 5) {r : Reg} (h : r.toNat < 8 ∨ 12 < r.toNat) :
    (s.setHi v).reg r = s.reg r := by
  have h8 : r ≠ 8 := by rintro rfl; exact absurd h (by decide)
  have h9 : r ≠ 9 := by rintro rfl; exact absurd h (by decide)
  have h10 : r ≠ 10 := by rintro rfl; exact absurd h (by decide)
  have h11 : r ≠ 11 := by rintro rfl; exact absurd h (by decide)
  have h12 : r ≠ 12 := by rintro rfl; exact absurd h (by decide)
  simp only [State.setHi, State.reg_setReg_ne _ _ h8, State.reg_setReg_ne _ _ h9, State.reg_setReg_ne _ _ h10,
    State.reg_setReg_ne _ _ h11, State.reg_setReg_ne _ _ h12]

theorem State.reg_hiMoved_ne (s : State) (ob nb : Bank) {r : Reg} (h : r.toNat < 8 ∨ 12 < r.toNat) :
    (s.hiMoved ob nb).reg r = s.reg r := by
  unfold State.hiMoved
  dsimp only
  split <;> split <;> simp only [State.reg_setHi_ne _ _ h]

@[simp] theorem State.hiMoved_banks (s : State) (ob nb : Bank) : (s.hiMoved ob nb).banks = s.banks := by
  unfold State.hiMoved
  dsimp only
  split <;> split <;> rfl

theorem State.loadBank_eq (s : State) (ob nb : Bank) :
    s.loadBank ob nb =
      { ((s.hiMoved ob nb).setReg 13 (s.banks.spLr nb).r13).setReg 14 (s.banks.spLr nb).r14 with
        spsr := (s.banks.spsr nb).getD (s.hiMoved ob nb).spsr } := by
  rw [← State.hiMoved_banks s ob nb]
  rfl

/-- The registers after a change of bank (10_state R40). -/
theorem State.loadStatus_reg (s : State) (new : Status) (hb : s.cpsr.mode.bank ≠ new.mode.bank) (r : Reg) :
    (s.loadStatus new).reg r =
      if r = 14 then ((s.saveBank s.cpsr.mode.bank new.mode.bank).banks.spLr new.mode.bank).r14
      else if r = 13 then ((s.saveBank s.cpsr.mode.bank new.mode.bank).banks.spLr new.mode.bank).r13
      else ((s.saveBank s.cpsr.mode.bank new.mode.bank).hiMoved s.cpsr.mode.bank new.mode.bank).reg r := by
  rw [State.loadStatus_change s new hb, State.loadBank_eq, ← State.reg_setReg, ← State.reg_setReg]
  rfl

/-- r0 to r7 and r15 are in no bank (10_state R22). -/
theorem State.loadStatus_reg_shared (s : State) (new : Status) (r : Reg) (h : r.toNat < 8 ∨ r = 15) :
    (s.loadStatus new).reg r = s.reg r := by
  have h13 : r ≠ 13 := by rintro rfl; exact absurd h (by decide)
  have h14 : r ≠ 14 := by rintro rfl; exact absurd h (by decide)
  by_cases hb : s.cpsr.mode.bank = new.mode.bank
  · rw [State.loadStatus_same s new hb]; rfl
  · rw [State.loadStatus_reg s new hb, if_neg h14, if_neg h13, State.reg_hiMoved_ne, State.reg_saveBank]
    obtain h | rfl := h
    · exact .inl h
    · exact .inr (by decide)

/-- r8 to r12 change with a switch into or out of FIQ alone (10_state R22, R40). -/
theorem State.loadStatus_reg_hi (s : State) (new : Status) (r : Reg) (h : 8 ≤ r.toNat) (h' : r.toNat ≤ 12)
    (hf : s.cpsr.mode.bank = new.mode.bank ∨ (s.cpsr.mode.bank ≠ .fiq ∧ new.mode.bank ≠ .fiq)) :
    (s.loadStatus new).reg r = s.reg r := by
  have h13 : r ≠ 13 := by rintro rfl; exact absurd h' (by decide)
  have h14 : r ≠ 14 := by rintro rfl; exact absurd h' (by decide)
  by_cases hb : s.cpsr.mode.bank = new.mode.bank
  · rw [State.loadStatus_same s new hb]; rfl
  · obtain hf | ⟨hf1, hf2⟩ := hf
    · exact absurd hf hb
    · rw [State.loadStatus_reg s new hb, if_neg h14, if_neg h13]
      simp [State.hiMoved, hf1, hf2]

/-- The r13 and r14 cells of the incoming bank are not touched by saving the outgoing one (10_state R40). -/
theorem State.saveBank_spLr (s : State) {ob nb : Bank} (hb : ob ≠ nb) :
    (s.saveBank ob nb).banks.spLr nb = s.banks.spLr nb := by
  cases ob <;> cases nb <;> first | exact absurd rfl hb | rfl

/-- The spsr cell of the incoming bank is not touched by saving the outgoing one (10_state R40). -/
theorem State.saveBank_spsrCell (s : State) {ob nb : Bank} (hb : ob ≠ nb) :
    (s.saveBank ob nb).banks.spsr nb = s.banks.spsr nb := by
  cases ob <;> cases nb <;> first | exact absurd rfl hb | rfl

/-- r13 and r14 of the incoming bank (10_state R40). -/
theorem State.loadStatus_r13 (s : State) (new : Status) (hb : s.cpsr.mode.bank ≠ new.mode.bank) :
    (s.loadStatus new).reg 13 = (s.banks.spLr new.mode.bank).r13 := by
  rw [State.loadStatus_reg s new hb, if_neg (by decide), if_pos rfl, State.saveBank_spLr s hb]

theorem State.loadStatus_r14 (s : State) (new : Status) (hb : s.cpsr.mode.bank ≠ new.mode.bank) :
    (s.loadStatus new).reg 14 = (s.banks.spLr new.mode.bank).r14 := by
  rw [State.loadStatus_reg s new hb, if_pos rfl, State.saveBank_spLr s hb]

/-- The banks after a switch: the outgoing one saved (10_state R40). -/
theorem State.loadStatus_banks (s : State) (new : Status) :
    (s.loadStatus new).banks =
      if s.cpsr.mode.bank = new.mode.bank then s.banks
      else (s.saveBank s.cpsr.mode.bank new.mode.bank).banks := by
  by_cases hb : s.cpsr.mode.bank = new.mode.bank
  · rw [State.loadStatus_same s new hb, if_pos hb]
  · rw [State.loadStatus_change s new hb, if_neg hb]
    simp only [State.loadBank]
    split <;> split <;> rfl

/-- The SPSR after a switch: the incoming bank's, where it has one (10_state R40). -/
theorem State.loadStatus_spsr (s : State) (new : Status) (hb : s.cpsr.mode.bank ≠ new.mode.bank) :
    (s.loadStatus new).spsr = (s.banks.spsr new.mode.bank).getD s.spsr := by
  rw [State.loadStatus_change s new hb, State.loadBank_eq, State.saveBank_spsrCell s hb]
  show (s.banks.spsr _).getD (State.hiMoved _ _ _).spsr = _
  congr 1
  unfold State.hiMoved
  dsimp only
  split <;> split <;> rfl

/-! ## Exception entry -/

/-- What every exception entry does to the fields outside the register file (60 R421). -/
theorem State.enter_frame (s : State) (e : Exc) :
    (s.enter e).cpsr = s.handlerStatus e ∧ (s.enter e).spsr = s.savedOnEntry e ∧ (s.enter e).redirected = true ∧
      (s.enter e).dev = s.dev ∧ (s.enter e).mem = s.mem ∧ (s.enter e).hostCalls = s.hostCalls ∧
      (s.enter e).draws = s.draws ∧ (s.enter e).params = s.params := by
  simp [State.enter]

/-- The PC and the link register after an entry (60 R421). -/
theorem State.enter_pc (s : State) (e : Exc) : (s.enter e).reg 15 = e.vector := by simp [State.enter]

theorem State.enter_link (s : State) (e : Exc) : (s.enter e).reg 14 = s.linkValue e := by
  simp [State.enter]

/-- r0 to r7 are untouched by an entry (60 R425). -/
theorem State.enter_reg_shared (s : State) (e : Exc) (r : Reg) (h : r.toNat < 8) : (s.enter e).reg r = s.reg r := by
  have h14 : r ≠ 14 := by rintro rfl; exact absurd h (by decide)
  have h15 : r ≠ 15 := by rintro rfl; exact absurd h (by decide)
  simp only [State.enter, State.reg_branchTo, h15, if_false, State.reg_setReg_ne _ _ h14]
  exact State.loadStatus_reg_shared s _ r (.inl h)

/-- A saved status word gives back the live one (10_state R36, R42). -/
@[simp] theorem Status.toStatus_toSaved (p : Status) : p.toSaved.toStatus = some p := by
  obtain ⟨n, z, c, v, i, f, t, m⟩ := p
  cases m <;> rfl

/-- The mode number of a legal word is its mode's (10_state R37). -/
theorem Mode.ofBits_bits (m : Mode) : Mode.ofBits m.bits = some m := by cases m <;> rfl

/-- A return: refused without an SPSR or with an illegal mode, else `load_status(SPSR)` (60 R436). -/
theorem State.restoreStatus_cases (s : State) (k : State → Outcome) :
    (s.cpsr.mode.hasSpsr = false ∧ s.restoreStatus k = .refused .noSpsr) ∨
    (s.cpsr.mode.hasSpsr = true ∧ s.spsr.toStatus = none ∧ s.restoreStatus k = .refused .illegalMode) ∨
    ∃ new, s.cpsr.mode.hasSpsr = true ∧ s.spsr.toStatus = some new ∧ s.restoreStatus k = k (s.loadStatus new) := by
  unfold State.restoreStatus
  by_cases h : s.cpsr.mode.hasSpsr = true
  · cases hs : s.spsr.toStatus with
    | none => exact .inr (.inl ⟨h, rfl, by simp [h]⟩)
    | some new => exact .inr (.inr ⟨new, h, rfl, by simp [h]⟩)
  · exact .inl ⟨by simpa using h, by simp [h]⟩

end Sys2Proof.Machine
end

