-- ==== Sys2Proof/Laws/Memory.lean ====
section
/-! SUPPORT. The laws of memory cells: a read after a write, and the canonical form. -/

namespace Sys2Proof.Machine

theorem Memory.read_cons (a : Nat) (v : Byte) (m : List Host.Cell) (k : Nat)
    (h : k = a → v = unlisted → Memory.read m k = unlisted) :
    Memory.read (Memory.cons a v m) k = if k = a then v else Memory.read m k := by
  unfold Memory.cons
  by_cases hv : v = unlisted
  · by_cases hk : k = a
    · simp [hv, hk]; rw [← hk]; exact h hk hv
    · simp [hv, hk]
  · simp only [hv, if_false]; rfl

/-- Every listed address is above `lo`. -/
theorem Memory.wfAbove_read {lo : Nat} {m : List Host.Cell} (h : Memory.wfAbove (some lo) m = true) {k : Nat}
    (hk : k ≤ lo) : Memory.read m k = unlisted := by
  induction m generalizing lo with
  | nil => rfl
  | cons c m ih =>
    obtain ⟨a, v⟩ := c
    simp only [Memory.wfAbove, Option.all_some, Bool.and_eq_true, decide_eq_true_eq] at h
    obtain ⟨⟨h1, _⟩, h3⟩ := h
    have : k ≠ a := by omega
    simp only [Memory.read, this, if_false]
    exact ih h3 (by omega)

theorem Memory.wfAbove_weaken {lo lo' : Option Nat} {m : List Host.Cell} (h : Memory.wfAbove lo m = true)
    (hl : ∀ l', lo' = some l' → ∃ l, lo = some l ∧ l' ≤ l) : Memory.wfAbove lo' m = true := by
  cases m with
  | nil => rfl
  | cons c m =>
    obtain ⟨a, v⟩ := c
    simp only [Memory.wfAbove, Bool.and_eq_true] at h ⊢
    refine ⟨⟨?_, h.1.2⟩, h.2⟩
    cases hl' : lo' with
    | none => rfl
    | some l' =>
      obtain ⟨l, hl1, hl2⟩ := hl l' hl'
      have := h.1.1
      simp only [hl1, Option.all_some, decide_eq_true_eq] at this ⊢
      omega

theorem Memory.wfAbove_cons {lo : Option Nat} {a : Nat} {v : Byte} {m : List Host.Cell}
    (ha : lo.all (· < a) = true) (hm : Memory.wfAbove (some a) m = true) :
    Memory.wfAbove lo (Memory.cons a v m) = true := by
  unfold Memory.cons
  by_cases hv : v = unlisted
  · simp only [hv, if_true]
    exact Memory.wfAbove_weaken hm fun l' e => ⟨a, rfl, by simp only [e, Option.all_some, decide_eq_true_eq] at ha; omega⟩
  · simp only [hv, if_false, Memory.wfAbove, Bool.and_eq_true]
    exact ⟨⟨ha, by simpa using hv⟩, hm⟩

theorem Memory.wfAbove_write {lo : Option Nat} {m : List Host.Cell} (h : Memory.wfAbove lo m = true) (a : Nat) (v : Byte)
    (ha : lo.all (· < a) = true) : Memory.wfAbove lo (Memory.write m a v) = true := by
  induction m generalizing lo with
  | nil => exact Memory.wfAbove_cons ha rfl
  | cons c m ih =>
    obtain ⟨b, w⟩ := c
    simp only [Memory.wfAbove, Bool.and_eq_true] at h
    obtain ⟨⟨h1, h2⟩, h3⟩ := h
    unfold Memory.write
    by_cases hab : a < b
    · simp only [hab, if_true]
      refine Memory.wfAbove_cons ha ?_
      simp only [Memory.wfAbove, Option.all_some, Bool.and_eq_true, decide_eq_true_eq]
      exact ⟨⟨hab, h2⟩, h3⟩
    · by_cases hb : a = b
      · simp only [hb, if_false, if_true, lt_irrefl]
        exact Memory.wfAbove_cons h1 h3
      · simp only [hab, hb, if_false, Memory.wfAbove, Bool.and_eq_true]
        exact ⟨⟨h1, h2⟩, ih h3 (by simp only [Option.all_some, decide_eq_true_eq]; omega)⟩

/-- A write keeps the canonical form. -/
theorem Memory.wf_write {m : List Host.Cell} (h : Memory.wf m = true) (a : Nat) (v : Byte) :
    Memory.wf (Memory.write m a v) = true := Memory.wfAbove_write h a v rfl

theorem Memory.wf_write16 {m : List Host.Cell} (h : Memory.wf m = true) (a : Nat) (v : Half) :
    Memory.wf (Memory.write16 m a v) = true := Memory.wf_write (Memory.wf_write h _ _) _ _

theorem Memory.wf_write32 {m : List Host.Cell} (h : Memory.wf m = true) (a : Nat) (v : Word) :
    Memory.wf (Memory.write32 m a v) = true :=
  Memory.wf_write (Memory.wf_write (Memory.wf_write (Memory.wf_write h _ _) _ _) _ _) _ _

theorem Memory.read_write_above {lo : Option Nat} {m : List Host.Cell} (h : Memory.wfAbove lo m = true) (a : Nat)
    (v : Byte) (k : Nat) : Memory.read (Memory.write m a v) k = if k = a then v else Memory.read m k := by
  induction m generalizing lo with
  | nil => exact Memory.read_cons a v [] k fun _ _ => rfl
  | cons c m ih =>
    obtain ⟨b, w⟩ := c
    simp only [Memory.wfAbove, Bool.and_eq_true] at h
    obtain ⟨⟨_, _⟩, h3⟩ := h
    unfold Memory.write
    by_cases hab : a < b
    · simp only [hab, if_true]
      refine Memory.read_cons a v _ k fun e _ => ?_
      have : k ≠ b := by omega
      simp only [Memory.read, this, if_false]
      exact Memory.wfAbove_read h3 (by omega)
    · by_cases hb : a = b
      · simp only [hb, if_false, if_true, lt_irrefl]
        rw [Memory.read_cons b v m k fun e _ => Memory.wfAbove_read h3 (by omega)]
        by_cases hk : k = b <;> simp [Memory.read, hk]
      · simp only [hab, hb, if_false, Memory.read, ih h3]
        by_cases hk : k = b
        · have : k ≠ a := by omega
          simp [hk]; intro e; omega
        · simp [hk]

/-- A read after a write: the byte written at its address, any other byte as before. -/
theorem Memory.read_write {m : List Host.Cell} (h : Memory.wf m = true) (a : Nat) (v : Byte) (k : Nat) :
    Memory.read (Memory.write m a v) k = if k = a then v else Memory.read m k := Memory.read_write_above h a v k

/-- The bytes of a halfword write. -/
theorem Memory.read_write16 {m : List Host.Cell} (h : Memory.wf m = true) (a : Nat) (v : Half) (k : Nat) :
    Memory.read (Memory.write16 m a v) k =
      if k = a + 1 then v.extractLsb' 8 8 else if k = a then v.extractLsb' 0 8 else Memory.read m k := by
  rw [Memory.write16, Memory.read_write (Memory.wf_write h _ _), Memory.read_write h]

/-- The bytes of a word write. -/
theorem Memory.read_write32 {m : List Host.Cell} (h : Memory.wf m = true) (a : Nat) (v : Word) (k : Nat) :
    Memory.read (Memory.write32 m a v) k =
      if k = a + 3 then v.extractLsb' 24 8 else if k = a + 2 then v.extractLsb' 16 8
      else if k = a + 1 then v.extractLsb' 8 8 else if k = a then v.extractLsb' 0 8 else Memory.read m k := by
  rw [Memory.write32, Memory.read_write (Memory.wf_write (Memory.wf_write (Memory.wf_write h _ _) _ _) _ _),
    Memory.read_write (Memory.wf_write (Memory.wf_write h _ _) _ _), Memory.read_write (Memory.wf_write h _ _),
    Memory.read_write h]

/-- Memory after reset is canonical. -/
theorem Memory.wf_reset : Memory.wf State.reset.mem = true := rfl

end Sys2Proof.Machine
end

