-- ==== Sys2Proof/Laws/Bus.lean ====
section
/-! SUPPORT. What a bus call can do, said once: where it arrives, what a load looks at, and what an accepted store changes:
nothing, the storage of an external node, the record of a free region, or the registers of a block. -/

namespace Sys2Proof.Machine

/-! ## Stores -/

/-- What an accepted store can do (20_memory R72, R75). -/
def StoreEffect (s t : State) : Prop :=
  t = s ∨ (∃ m, (Memory.wf s.mem = true → Memory.wf m = true) ∧ t = { s with mem := m }) ∨
    (∃ call, t = { s with nodeStores := call :: s.nodeStores }) ∨ ∃ d, t = { s with dev := d }

/-- What a region does with a store: its storage takes it, it is ignored, or a free region records it (20_memory R84). -/
theorem State.storeBy_cases {s t : State} {rule : StoreRule} {mem : List Host.Cell} {call : NodeStore}
    (h : s.storeBy rule mem call = some t) :
    (rule = .cells ∧ t = { s with mem := mem }) ∨ (rule = .ignored ∧ t = s) ∨
      (rule = .free ∧ t = { s with nodeStores := call :: s.nodeStores }) := by
  cases rule with
  | cells => exact .inl ⟨rfl, (Option.some.inj h).symm⟩
  | ignored => exact .inr (.inl ⟨rfl, (Option.some.inj h).symm⟩)
  | fails => cases h
  | free =>
    simp only [State.storeBy] at h
    split at h
    · exact .inr (.inr ⟨rfl, (Option.some.inj h).symm⟩)
    · cases h

/-- A store that a region accepts keeps memory canonical where the storage it leaves is. -/
theorem State.storeBy_effect {s t : State} {rule : StoreRule} {mem : List Host.Cell} {call : NodeStore}
    (hm : Memory.wf s.mem = true → Memory.wf mem = true) (h : s.storeBy rule mem call = some t) : StoreEffect s t := by
  obtain ⟨_, rfl⟩ | ⟨_, rfl⟩ | ⟨_, rfl⟩ := State.storeBy_cases h
  · exact .inr (.inl ⟨mem, hm, rfl⟩)
  · exact .inl rfl
  · exact .inr (.inr (.inl ⟨call, rfl⟩))

theorem State.store8_cases {s t : State} {a : Word} {v : Byte} (h : s.store8 a v = some t) :
    (target s.params a = .absent ∧ t = s) ∨
    (∃ bank off r, target s.params a = .node bank off r ∧
      s.storeBy r.store (Memory.write s.mem (cellIn r off) v) ⟨bank, off, 1, v.setWidth 32⟩ = some t) ∨
    ∃ b off, target s.params a = .block b off ∧ t = { s with dev := b.store8 s.params off v s.dev } := by
  unfold State.store8 at h
  split at h
  · exact .inl ⟨‹_›, (Option.some.inj h).symm⟩
  · exact .inr (.inl ⟨_, _, _, ‹_›, h⟩)
  · exact .inr (.inr ⟨_, _, ‹_›, (Option.some.inj h).symm⟩)

theorem State.store16_cases {s t : State} {a : Word} {v : Half} (h : s.store16 a v = some t) :
    (target s.params a = .absent ∧ t = s) ∨
    (∃ bank off r, target s.params a = .node bank off r ∧
      s.storeBy r.store (Memory.write16 s.mem (cellIn r off) v) ⟨bank, off, 2, v.setWidth 32⟩ = some t) ∨
    ∃ b off, target s.params a = .block b off ∧ t = { s with dev := b.store16 s.params off v s.dev } := by
  unfold State.store16 at h
  split at h
  · exact .inl ⟨‹_›, (Option.some.inj h).symm⟩
  · exact .inr (.inl ⟨_, _, _, ‹_›, h⟩)
  · exact .inr (.inr ⟨_, _, ‹_›, (Option.some.inj h).symm⟩)

theorem State.store32_cases {s t : State} {a : Word} {v : Word} (h : s.store32 a v = some t) :
    (target s.params a = .absent ∧ t = s) ∨
    (∃ bank off r, target s.params a = .node bank off r ∧
      s.storeBy r.store (Memory.write32 s.mem (cellIn r off) v) ⟨bank, off, 4, v⟩ = some t) ∨
    ∃ b off, target s.params a = .block b off ∧ t = { s with dev := b.store32 s.params off v s.dev } := by
  unfold State.store32 at h
  split at h
  · exact .inl ⟨‹_›, (Option.some.inj h).symm⟩
  · exact .inr (.inl ⟨_, _, _, ‹_›, h⟩)
  · exact .inr (.inr ⟨_, _, ‹_›, (Option.some.inj h).symm⟩)

theorem State.store8_effect {s t : State} {a : Word} {v : Byte} (h : s.store8 a v = some t) : StoreEffect s t := by
  obtain ⟨_, rfl⟩ | ⟨_, _, _, _, h⟩ | ⟨b, off, _, rfl⟩ := State.store8_cases h
  · exact .inl rfl
  · exact State.storeBy_effect (fun hm => Memory.wf_write hm _ v) h
  · exact .inr (.inr (.inr ⟨_, rfl⟩))

theorem State.store16_effect {s t : State} {a : Word} {v : Half} (h : s.store16 a v = some t) : StoreEffect s t := by
  obtain ⟨_, rfl⟩ | ⟨_, _, _, _, h⟩ | ⟨b, off, _, rfl⟩ := State.store16_cases h
  · exact .inl rfl
  · exact State.storeBy_effect (fun hm => Memory.wf_write16 hm _ v) h
  · exact .inr (.inr (.inr ⟨_, rfl⟩))

theorem State.store32_effect {s t : State} {a : Word} {v : Word} (h : s.store32 a v = some t) : StoreEffect s t := by
  obtain ⟨_, rfl⟩ | ⟨_, _, _, _, h⟩ | ⟨b, off, _, rfl⟩ := State.store32_cases h
  · exact .inl rfl
  · exact State.storeBy_effect (fun hm => Memory.wf_write32 hm _ v) h
  · exact .inr (.inr (.inr ⟨_, rfl⟩))

/-- A store leaves the CPU alone (60 R503: no bus call changes the Register File). -/
theorem StoreEffect.core {s t : State} (h : StoreEffect s t) :
    t.regs = s.regs ∧ t.cpsr = s.cpsr ∧ t.spsr = s.spsr ∧ t.banks = s.banks ∧ t.redirected = s.redirected ∧
      t.hostCalls = s.hostCalls ∧ t.draws = s.draws ∧ t.params = s.params := by
  obtain rfl | ⟨m, _, rfl⟩ | ⟨call, rfl⟩ | ⟨d, rfl⟩ := h <;> exact ⟨rfl, rfl, rfl, rfl, rfl, rfl, rfl, rfl⟩

/-- A store keeps memory canonical. -/
theorem StoreEffect.wf {s t : State} (h : StoreEffect s t) (hm : Memory.wf s.mem = true) : Memory.wf t.mem = true := by
  obtain rfl | ⟨m, hw, rfl⟩ | ⟨call, rfl⟩ | ⟨d, rfl⟩ := h
  · exact hm
  · exact hw hm
  · exact hm
  · exact hm

/-! ## Storage, with the region known -/

/-- The cell of an address that a region owns (20_memory R84). -/
theorem cellOf_node {p : Params} {a : Word} {bank off : Nat} {r : Region} (h : target p a = .node bank off r) :
    cellOf p a = cellIn r off := by simp [cellOf, h]

theorem State.store8_cells {s : State} {a : Word} {bank off : Nat} {r : Region} (v : Byte)
    (h : target s.params a = .node bank off r) (hr : r.store = .cells) :
    s.store8 a v = some { s with mem := Memory.write s.mem (cellIn r off) v } := by
  simp [State.store8, h, hr, State.storeBy]

theorem State.store16_cells {s : State} {a : Word} {bank off : Nat} {r : Region} (v : Half)
    (h : target s.params a = .node bank off r) (hr : r.store = .cells) :
    s.store16 a v = some { s with mem := Memory.write16 s.mem (cellIn r off) v } := by
  simp [State.store16, h, hr, State.storeBy]

theorem State.store32_cells {s : State} {a : Word} {bank off : Nat} {r : Region} (v : Word)
    (h : target s.params a = .node bank off r) (hr : r.store = .cells) :
    s.store32 a v = some { s with mem := Memory.write32 s.mem (cellIn r off) v } := by
  simp [State.store32, h, hr, State.storeBy]

theorem State.load8_cells {s : State} {a : Word} {bank off : Nat} {r : Region}
    (h : target s.params a = .node bank off r) (hr : r.load = .cells) :
    s.load8 a = some (Memory.read s.mem (cellIn r off)) := by simp [State.load8, h, hr, answerBy]

theorem State.load16_cells {s : State} {a : Word} {bank off : Nat} {r : Region}
    (h : target s.params a = .node bank off r) (hr : r.load = .cells) :
    s.load16 a = some (Memory.read16 s.mem (cellIn r off)) := by simp [State.load16, h, hr, answerBy]

theorem State.load32_cells {s : State} {a : Word} {bank off : Nat} {r : Region}
    (h : target s.params a = .node bank off r) (hr : r.load = .cells) :
    s.load32 a = some (Memory.read32 s.mem (cellIn r off)) := by simp [State.load32, h, hr, answerBy]

/-! ## What a load looks at -/

/-- A bus load depends on the storage, the devices, the free regions' record, the free values' index and the parameters
alone. -/
theorem State.load32_congr {s t : State} (a : Word) (hm : t.mem = s.mem) (hd : t.dev = s.dev)
    (hn : t.nodeStores = s.nodeStores) (hw : t.draws = s.draws) (hp : t.params = s.params) : t.load32 a = s.load32 a := by
  simp [State.load32, State.freeLoad, hm, hd, hn, hw, hp]

/-! ## Regions -/

/-- The region that answers has the offset (20_memory R84). -/
theorem regionOf_has {n : Node} {off : Nat} {r : Region} (h : regionOf n off = some r) :
    r ∈ n ∧ r.first ≤ off / 4 ∧ off / 4 ≤ r.last := by
  refine ⟨List.mem_of_find?_eq_some h, ?_⟩
  simpa using List.find?_some h

/-- The offset of an address that an external node owns is its bits 23:0 (20_memory R84, R85). -/
theorem target_node_off {p : Params} {a : Word} {bank off : Nat} {r : Region} (h : target p a = .node bank off r) :
    off = a.toNat % 2 ^ 24 := by
  have hn : ∀ (b o : Nat) (n : Node), nodeTarget b o n = .node bank off r → off = o := by
    intro b o n hb
    unfold nodeTarget at hb
    split at hb
    · cases hb; rfl
    · cases hb
  unfold target ioTarget at h
  repeat (split at h <;> first | exact hn _ _ _ h | cases h | skip)

/-- Storage cells keep the byte's place in its word (20_memory R88). -/
theorem cellIn_mod (r : Region) (off : Nat) : cellIn r off % 4 = off % 4 := by
  simp [cellIn]

/-- The bytes of one word of offsets are the bytes of one word of storage (20_memory R88, R89). -/
theorem cellIn_add (r : Region) {off k : Nat} (h : off % 4 + k < 4) : cellIn r (off + k) = cellIn r off + k := by
  have h1 : (off + k) / 4 = off / 4 := by omega
  have h2 : (off + k) % 4 = off % 4 + k := by omega
  simp only [cellIn, h1, h2]
  omega

end Sys2Proof.Machine
end

