-- ==== Sys2Proof/Laws/Access.lean ====
section
/-! SUPPORT. For each shared operation of the families, the one lemma that says when it answers a next state and which. -/

namespace Sys2Proof.Machine

/-! ## The condition and the refused operand forms -/

theorem State.ifPassed_pos {st : State} {c : Cond} (h : Cond.holds c st.cpsr = true) (k : Outcome) :
    st.ifPassed c k = k := by simp [State.ifPassed, h]

theorem State.ifPassed_neg {st : State} {c : Cond} (h : Cond.holds c st.cpsr = false) (k : Outcome) :
    st.ifPassed c k = .next st := by simp [State.ifPassed, h]

/-- Under a condition: skipped and unchanged, or run (40 R154). -/
theorem State.ifPassed_next {st t : State} {c : Cond} {k : Outcome} :
    st.ifPassed c k = .next t ↔
      (Cond.holds c st.cpsr = false ∧ t = st) ∨ (Cond.holds c st.cpsr = true ∧ k = .next t) := by
  cases h : Cond.holds c st.cpsr
  · rw [State.ifPassed_neg h]
    simp only [Host.Outcome.next.injEq, true_and, Bool.false_eq_true, false_and, or_false]
    exact eq_comm
  · rw [State.ifPassed_pos h]; simp

theorem guarded_none {u : Option Unpredictable} (h : u = none) (k : Outcome) : guarded u k = k := by rw [h]; rfl

/-- A guarded meaning runs only where its check refuses nothing. -/
theorem guarded_next {u : Option Unpredictable} {k : Outcome} {t : State} :
    guarded u k = .next t ↔ u = none ∧ k = .next t := by
  cases u with
  | none => simp [guarded]
  | some u => simp [guarded]

/-- The check of the well-formed operands (WellFormed). -/
theorem unpredictable_of_wf {i : Instr} (h : i.wf = true) : i.unpredictable = none := by
  simpa [Instr.wf, Option.isNone_iff_eq_none] using h

/-- A guard on odd addresses runs the load or refuses it (44 R256). -/
theorem State.halfwordGuard_next {st t : State} {ea : Word} {k : Outcome} :
    st.halfwordGuard ea k = .next t ↔ ¬(isOdd ea = true ∧ st.params.oddHalfword = .refuse) ∧ k = .next t := by
  unfold State.halfwordGuard
  split
  · next h => simp [h]
  · next h => exact ⟨fun hk => ⟨h, hk⟩, fun hk => hk.2⟩

/-- A sequence goes on only from a next state. -/
theorem andThen_next {o : Outcome} {k : State → Outcome} {t : State} :
    andThen o k = .next t ↔ ∃ s, o = .next s ∧ k s = .next t := by
  cases o with
  | next s => exact ⟨fun h => ⟨s, rfl, h⟩, by rintro ⟨u, hu, h⟩; cases hu; exact h⟩
  | fault r => simp [andThen]
  | refused r => simp [andThen]

/-! ## Data processing and multiplies -/

/-- How an operation that writes Rd ends (42 R192, R198, R199). -/
theorem State.writeAlu_next {st t : State} {s : Bool} {rd : Reg} {x : Alu} (h : st.writeAlu s rd x = .next t) :
    (rd ≠ 15 ∧ s = true ∧ t = (st.setReg rd x.result).setAluFlags x) ∨
    (rd ≠ 15 ∧ s = false ∧ t = st.setReg rd x.result) ∨
    (rd = 15 ∧ s = false ∧ t = st.branchTo x.result) ∨
    ∃ new, rd = 15 ∧ s = true ∧ st.cpsr.mode.hasSpsr = true ∧ st.spsr.toStatus = some new ∧
      t = (st.loadStatus new).branchTo x.result := by
  unfold State.writeAlu at h
  by_cases hr : rd = 15
  · cases s with
    | false => simp [hr] at h; exact .inr (.inr (.inl ⟨hr, rfl, h.symm⟩))
    | true =>
      simp only [hr, if_true] at h
      obtain ⟨_, e⟩ | ⟨_, _, e⟩ | ⟨new, h1, h2, e⟩ :=
        State.restoreStatus_cases st fun t => Host.Outcome.next (t.branchTo x.result)
      · rw [e] at h; cases h
      · rw [e] at h; cases h
      · rw [e] at h; cases h; exact .inr (.inr (.inr ⟨new, hr, rfl, h1, h2, rfl⟩))
  · rw [if_neg hr] at h
    cases s with
    | false => cases h; exact .inr (.inl ⟨hr, rfl, rfl⟩)
    | true => cases h; exact .inl ⟨hr, rfl, rfl⟩

/-! ## Single transfers -/

/-- How a load ends (44 R241, R242). -/
theorem State.load_next {st t : State} {rn rd : Reg} {x : Transfer} {v : Option Word}
    (h : st.load rn rd x v = .next t) :
    (v = none ∧ t = st.enter .dataAbort) ∨ ∃ w, v = some w ∧ t = (st.writeBack rn x).writeReg rd w := by
  cases v with
  | none => cases h; exact .inl ⟨rfl, rfl⟩
  | some w => cases h; exact .inr ⟨w, rfl, rfl⟩

/-- How a store ends (44 R241, R243). -/
theorem State.store_next {st t : State} {rn : Reg} {x : Transfer} {v : Option State}
    (h : st.store rn x v = .next t) :
    (v = none ∧ t = st.enter .dataAbort) ∨ ∃ s', v = some s' ∧ t = s'.writeBack rn x := by
  cases v with
  | none => cases h; exact .inl ⟨rfl, rfl⟩
  | some s' => cases h; exact .inr ⟨s', rfl, rfl⟩

/-- How a narrow load ends (48 R371). -/
theorem State.loadLo_next {st t : State} {rd : LoReg} {v : Option Word} (h : st.loadLo rd v = .next t) :
    (v = none ∧ t = st.enter .dataAbort) ∨ ∃ w, v = some w ∧ t = st.setReg (low rd) w := by
  cases v with
  | none => cases h; exact .inl ⟨rfl, rfl⟩
  | some w => cases h; exact .inr ⟨w, rfl, rfl⟩

/-- How a narrow store ends (48 R371). -/
theorem State.storeLo_next {st t : State} {v : Option State} (h : st.storeLo v = .next t) :
    (v = none ∧ t = st.enter .dataAbort) ∨ v = some t := by
  cases v with
  | none => cases h; exact .inl ⟨rfl, rfl⟩
  | some s' => cases h; exact .inr rfl

/-- How a swap ends (45 R284). -/
theorem State.swap_next {st t : State} {rd : Reg} {v : Option Word} {x : Option State}
    (h : st.swap rd v x = .next t) :
    t = st.enter .dataAbort ∨ ∃ w s', v = some w ∧ x = some s' ∧ t = s'.setReg rd w := by
  cases v with
  | none => cases h; exact .inl rfl
  | some w =>
    cases x with
    | none => cases h; exact .inl rfl
    | some s' => cases h; exact .inr ⟨w, s', rfl, rfl, rfl⟩

/-! ## Block transfers -/

/-- The state a block transfer ended in, cut short or not. -/
def Block.state : Block → State
  | .done s _ => s
  | .aborted s => s

/-- What every register write keeps, the loads of a block keep (45 R270). -/
theorem State.loadBlock_kept {put : State → Reg → Word → State} {P : State → Prop}
    (hput : ∀ s r v, r ≠ 15 → P s → P (put s r v)) (rs : List Reg) (addr target : Word) {s : State} (h : P s) :
    P (State.loadBlock put rs addr target s).state := by
  induction rs generalizing addr target s with
  | nil => exact h
  | cons r rs ih =>
    unfold State.loadBlock
    split
    · exact h
    · split
      · exact ih _ _ h
      · next hr => exact ih _ _ (hput _ _ _ hr h)

/-- What every word store keeps, the stores of a block keep (45 R274). -/
theorem State.storeBlock_kept {P : State → Prop}
    (hst : ∀ s a v t, P s → s.store32 a v = some t → P t) (vs : List Word) (addr : Word) {s : State} (h : P s) :
    P (State.storeBlock vs addr s).state := by
  induction vs generalizing addr s with
  | nil => exact h
  | cons v vs ih =>
    unfold State.storeBlock
    split
    · exact h
    · next he => exact ih _ (hst _ _ _ _ h he)

/-- How a block transfer ends (45 R279). -/
theorem Block.finish_next {b : Block} {k : State → Word → Outcome} {t : State} (h : b.finish k = .next t) :
    (b = .aborted b.state ∧ t = b.state.enter .dataAbort) ∨ ∃ target, b = .done b.state target ∧ k b.state target = .next t := by
  cases b with
  | aborted s => cases h; exact .inl ⟨rfl, rfl⟩
  | done s target => exact .inr ⟨target, rfl, h⟩

/-! ## The step -/

/-- A step is the agent's step, the timers, and the outside's calls (60 R500). -/
theorem step_next {s t : State} : step s = .next t ↔ ∃ u, s.agentStep = .next u ∧ u.timerPhase.externalPhase = .next t :=
  andThen_next

/-- How a CPU step ends (40 R162): an exception taken before the fetch, a failed fetch, or a fetched word that was run. -/
theorem State.cpuStep_next {s t : State} (h : s.cpuStep = .next t) :
    ∃ u, t = u.finishStep (widthOf s.cpsr.t) ∧
      ((∃ e, s.prepared.asyncException = some e ∧ u = s.prepared.enterAsync e) ∨
      (s.prepared.asyncException = none ∧ u = s.prepared.drawn.enter .prefetchAbort) ∨
      (∃ w, s.prepared.asyncException = none ∧ s.cpsr.t = false ∧ s.prepared.drawn.runWide w = .next u) ∨
      ∃ hw, s.prepared.asyncException = none ∧ s.cpsr.t = true ∧ s.prepared.drawn.runNarrow hw = .next u) := by
  obtain ⟨u, hu, he⟩ := andThen_next.1 h
  refine ⟨u, by cases he; rfl, ?_⟩
  cases ha : s.prepared.asyncException with
  | some x => simp only [ha] at hu; cases hu; exact .inl ⟨x, rfl, rfl⟩
  | none =>
    simp only [ha, State.fetchAndRun] at hu
    cases ht : s.cpsr.t with
    | true =>
      simp only [State.prepared_cpsr, ht, if_true] at hu
      split at hu
      · exact .inr (.inr (.inr ⟨_, rfl, rfl, hu⟩))
      · cases hu; exact .inr (.inl ⟨rfl, rfl⟩)
    | false =>
      simp only [State.prepared_cpsr, ht, Bool.false_eq_true, if_false] at hu
      split at hu
      · exact .inr (.inr (.inl ⟨_, rfl, rfl, hu⟩))
      · cases hu; exact .inr (.inl ⟨rfl, rfl⟩)

/-- What every call of the outside keeps, a batch of calls keeps (60 R503). -/
theorem runCalls_kept {P : State → Prop} (hc : ∀ s call t, P s → s.hostCall call = .next t → P t)
    (calls : List HostCall) {s t : State} (h : P s) (ht : runCalls calls s = .next t) : P t := by
  induction calls generalizing s with
  | nil => cases ht; exact h
  | cons call rest ih =>
    obtain ⟨u, hu, he⟩ := andThen_next.1 ht
    exact ih (hc _ _ _ h hu) he

/-- What every unit of a transfer keeps, the transfer keeps (60 R477). -/
theorem State.dmaUnits_kept {P : State → Prop} {ctrl : DmaControl} {ch : Fin 4}
    (hu : ∀ s, P s → P (s.dmaUnit ctrl ch)) (n : Nat) {s : State} (h : P s) : P (State.dmaUnits ctrl ch n s) := by
  induction n generalizing s with
  | zero => exact h
  | succ n ih => exact ih (hu _ h)

/-- What every overflow keeps, the timer step's overflows keep (60 R490). -/
theorem runOverflows_kept {P : Devices → Prop} {p : Params} {target : Nat}
    (ho : ∀ d t o, P d → d.nextDue = some (t, o) → o ≤ target → P (Devices.overflow p t o d)) (n : Nat) {d : Devices}
    (h : P d) : P (runOverflows p target n d) := by
  induction n generalizing d with
  | zero => exact h
  | succ n ih =>
    unfold runOverflows
    split
    · next t o he =>
      split
      · next hle => exact ih (ho _ _ _ h he hle)
      · exact h
    · exact h

end Sys2Proof.Machine
end

