-- ==== Sys2Proof/Laws/Decode.lean ====
section
/-! SUPPORT. The laws of the opcode table: codes of conditions and shifts, no two rows share a word, and a word that fits
a row is decoded by it. -/

namespace Sys2Proof

theorem Cond.code_lt (c : Cond) : c.code < 16 := by cases c <;> decide

@[simp] theorem Cond.ofCode_code (c : Cond) : Cond.ofCode c.code = c := by cases c <;> rfl

theorem Shift.code_lt (c : Shift) : c.code < 4 := by cases c <;> decide

@[simp] theorem Shift.ofCode_code (c : Shift) : Shift.ofCode c.code = c := by cases c <;> rfl

/-- A field of a field. -/
theorem slice_slice {k : Nat} (w : BitVec k) {hi lo h l : Nat} (hl : lo ≤ l) (hh : h ≤ hi) :
    slice hi lo w / 2 ^ (l - lo) % 2 ^ (h + 1 - l) = slice h l w := by
  unfold slice
  apply Nat.eq_of_testBit_eq
  intro i
  simp only [Nat.testBit_mod_two_pow, Nat.testBit_div_two_pow]
  by_cases hi' : i < h + 1 - l
  · have h1 : i + (l - lo) < hi + 1 - lo := by omega
    have h2 : i + (l - lo) + lo = i + l := by omega
    simp [hi', h1, h2]
  · simp [hi']

/-- No word fits two rows that stand apart. -/
theorem Row.apart_fits {k : Nat} {r q : Row k} (h : r.apart q = true) {w : BitVec k} (hr : r.fits w = true) :
    q.fits w = false := by
  simp only [Row.apart, List.any_eq_true, Bool.and_eq_true, bne_iff_ne, decide_eq_true_eq] at h
  obtain ⟨f, hf, g, hg, _, hne⟩ := h
  simp only [Row.fits, List.all_eq_true, beq_iff_eq] at hr
  by_contra hq
  simp only [Bool.not_eq_false, Row.fits, List.all_eq_true, beq_iff_eq] at hq
  rw [← hr f hf, ← hq g hg, slice_slice w (by omega) (by omega), slice_slice w (by omega) (by omega)] at hne
  exact hne rfl

/-- In a table whose rows stand apart, a word that fits a row finds that row. -/
theorem find_of_fits {k : Nat} {rows : List (Row k)} {w : BitVec k}
    (hp : rows.Pairwise fun r q => r.apart q = true) {r : Row k} (hr : r ∈ rows) (hw : r.fits w = true) :
    rows.find? (·.fits w) = some r := by
  induction rows with
  | nil => simp at hr
  | cons q rest ih =>
    obtain rfl | hr' := List.mem_cons.1 hr
    · simp [List.find?, hw]
    · have hq : q.fits w = false := by
        cases hqf : q.fits w with
        | false => rfl
        | true => rw [Row.apart_fits (List.rel_of_pairwise_cons hp hr') hqf] at hw; cases hw
      simp [List.find?, hq, ih (List.Pairwise.of_cons hp) hr']

/-- No two wide rows share a word (30_encoding R114). -/
theorem wideRows_apart : wideRows.Pairwise fun r q => r.apart q = true := by decide +kernel

/-- No two narrow rows share a halfword (30_encoding R125). -/
theorem narrowRows_apart : narrowRows.Pairwise fun r q => r.apart q = true := by decide +kernel

/-- A wide word is decoded by any row it fits. -/
theorem decodeWide_of_fits {r : Row 32} (hr : r ∈ wideRows) {w : Word} (hw : r.fits w = true) :
    decodeWide w = some (r.build w) := by
  rw [decodeWide, find_of_fits wideRows_apart hr hw]; rfl

/-- A narrow halfword is decoded by any row it fits. -/
theorem decodeNarrow_of_fits {r : Row 16} (hr : r ∈ narrowRows) {h : Half} (hw : r.fits h = true) :
    decodeNarrow h = some (r.build h) := by
  rw [decodeNarrow, find_of_fits narrowRows_apart hr hw]; rfl

/-- The wide decoder refuses exactly the words that fit no row (30_encoding R137). -/
theorem decodeWide_none {w : Word} : decodeWide w = none ↔ ∀ r ∈ wideRows, r.fits w = false := by
  simp [decodeWide]

/-- The narrow decoder refuses exactly the halfwords that fit no row (30_encoding R138). -/
theorem decodeNarrow_none {h : Half} : decodeNarrow h = none ↔ ∀ r ∈ narrowRows, r.fits h = false := by
  simp [decodeNarrow]

end Sys2Proof
end

