-- ==== Sys2Proof/Laws/PerInstr.lean ====
section
/-! SUPPORT. The family Width: what every instruction's encoding has, one lemma per constructor. -/

namespace Sys2Proof.Laws.Width

open Sys2Proof.Machine

/-- The encoding is a wide word of four bytes where the instruction has a condition field, and a narrow halfword of two
bytes where it has none (30_encoding R110, R112, R113, 40 R155). -/
def Statement (i : Instr) : Prop :=
  (encode i).isNarrow = (condOf i).isNone ∧ (encode i).bytes.length = if (condOf i).isNone then 2 else 4

theorem andImm (c : Cond) (s : Bool) (rn rd : Reg) (rot : BitVec 4) (imm8 : BitVec 8) :
    Statement (.andImm c s rn rd rot imm8) := ⟨rfl, rfl⟩
theorem andRegIs (c : Cond) (s : Bool) (rn rd : Reg) (shamt : BitVec 5) (sh : Shift) (rm : Reg) :
    Statement (.andRegIs c s rn rd shamt sh rm) := ⟨rfl, rfl⟩
theorem andRegRs (c : Cond) (s : Bool) (rn rd rs : Reg) (sh : Shift) (rm : Reg) :
    Statement (.andRegRs c s rn rd rs sh rm) := ⟨rfl, rfl⟩
theorem eorImm (c : Cond) (s : Bool) (rn rd : Reg) (rot : BitVec 4) (imm8 : BitVec 8) :
    Statement (.eorImm c s rn rd rot imm8) := ⟨rfl, rfl⟩
theorem eorRegIs (c : Cond) (s : Bool) (rn rd : Reg) (shamt : BitVec 5) (sh : Shift) (rm : Reg) :
    Statement (.eorRegIs c s rn rd shamt sh rm) := ⟨rfl, rfl⟩
theorem eorRegRs (c : Cond) (s : Bool) (rn rd rs : Reg) (sh : Shift) (rm : Reg) :
    Statement (.eorRegRs c s rn rd rs sh rm) := ⟨rfl, rfl⟩
theorem subImm (c : Cond) (s : Bool) (rn rd : Reg) (rot : BitVec 4) (imm8 : BitVec 8) :
    Statement (.subImm c s rn rd rot imm8) := ⟨rfl, rfl⟩
theorem subRegIs (c : Cond) (s : Bool) (rn rd : Reg) (shamt : BitVec 5) (sh : Shift) (rm : Reg) :
    Statement (.subRegIs c s rn rd shamt sh rm) := ⟨rfl, rfl⟩
theorem subRegRs (c : Cond) (s : Bool) (rn rd rs : Reg) (sh : Shift) (rm : Reg) :
    Statement (.subRegRs c s rn rd rs sh rm) := ⟨rfl, rfl⟩
theorem rsbImm (c : Cond) (s : Bool) (rn rd : Reg) (rot : BitVec 4) (imm8 : BitVec 8) :
    Statement (.rsbImm c s rn rd rot imm8) := ⟨rfl, rfl⟩
theorem rsbRegIs (c : Cond) (s : Bool) (rn rd : Reg) (shamt : BitVec 5) (sh : Shift) (rm : Reg) :
    Statement (.rsbRegIs c s rn rd shamt sh rm) := ⟨rfl, rfl⟩
theorem rsbRegRs (c : Cond) (s : Bool) (rn rd rs : Reg) (sh : Shift) (rm : Reg) :
    Statement (.rsbRegRs c s rn rd rs sh rm) := ⟨rfl, rfl⟩
theorem addImm (c : Cond) (s : Bool) (rn rd : Reg) (rot : BitVec 4) (imm8 : BitVec 8) :
    Statement (.addImm c s rn rd rot imm8) := ⟨rfl, rfl⟩
theorem addRegIs (c : Cond) (s : Bool) (rn rd : Reg) (shamt : BitVec 5) (sh : Shift) (rm : Reg) :
    Statement (.addRegIs c s rn rd shamt sh rm) := ⟨rfl, rfl⟩
theorem addRegRs (c : Cond) (s : Bool) (rn rd rs : Reg) (sh : Shift) (rm : Reg) :
    Statement (.addRegRs c s rn rd rs sh rm) := ⟨rfl, rfl⟩
theorem adcImm (c : Cond) (s : Bool) (rn rd : Reg) (rot : BitVec 4) (imm8 : BitVec 8) :
    Statement (.adcImm c s rn rd rot imm8) := ⟨rfl, rfl⟩
theorem adcRegIs (c : Cond) (s : Bool) (rn rd : Reg) (shamt : BitVec 5) (sh : Shift) (rm : Reg) :
    Statement (.adcRegIs c s rn rd shamt sh rm) := ⟨rfl, rfl⟩
theorem adcRegRs (c : Cond) (s : Bool) (rn rd rs : Reg) (sh : Shift) (rm : Reg) :
    Statement (.adcRegRs c s rn rd rs sh rm) := ⟨rfl, rfl⟩
theorem sbcImm (c : Cond) (s : Bool) (rn rd : Reg) (rot : BitVec 4) (imm8 : BitVec 8) :
    Statement (.sbcImm c s rn rd rot imm8) := ⟨rfl, rfl⟩
theorem sbcRegIs (c : Cond) (s : Bool) (rn rd : Reg) (shamt : BitVec 5) (sh : Shift) (rm : Reg) :
    Statement (.sbcRegIs c s rn rd shamt sh rm) := ⟨rfl, rfl⟩
theorem sbcRegRs (c : Cond) (s : Bool) (rn rd rs : Reg) (sh : Shift) (rm : Reg) :
    Statement (.sbcRegRs c s rn rd rs sh rm) := ⟨rfl, rfl⟩
theorem rscImm (c : Cond) (s : Bool) (rn rd : Reg) (rot : BitVec 4) (imm8 : BitVec 8) :
    Statement (.rscImm c s rn rd rot imm8) := ⟨rfl, rfl⟩
theorem rscRegIs (c : Cond) (s : Bool) (rn rd : Reg) (shamt : BitVec 5) (sh : Shift) (rm : Reg) :
    Statement (.rscRegIs c s rn rd shamt sh rm) := ⟨rfl, rfl⟩
theorem rscRegRs (c : Cond) (s : Bool) (rn rd rs : Reg) (sh : Shift) (rm : Reg) :
    Statement (.rscRegRs c s rn rd rs sh rm) := ⟨rfl, rfl⟩
theorem tstImm (c : Cond) (rn : Reg) (sbz rot : BitVec 4) (imm8 : BitVec 8) :
    Statement (.tstImm c rn sbz rot imm8) := ⟨rfl, rfl⟩
theorem tstRegIs (c : Cond) (rn : Reg) (sbz : BitVec 4) (shamt : BitVec 5) (sh : Shift) (rm : Reg) :
    Statement (.tstRegIs c rn sbz shamt sh rm) := ⟨rfl, rfl⟩
theorem tstRegRs (c : Cond) (rn : Reg) (sbz : BitVec 4) (rs : Reg) (sh : Shift) (rm : Reg) :
    Statement (.tstRegRs c rn sbz rs sh rm) := ⟨rfl, rfl⟩
theorem teqImm (c : Cond) (rn : Reg) (sbz rot : BitVec 4) (imm8 : BitVec 8) :
    Statement (.teqImm c rn sbz rot imm8) := ⟨rfl, rfl⟩
theorem teqRegIs (c : Cond) (rn : Reg) (sbz : BitVec 4) (shamt : BitVec 5) (sh : Shift) (rm : Reg) :
    Statement (.teqRegIs c rn sbz shamt sh rm) := ⟨rfl, rfl⟩
theorem teqRegRs (c : Cond) (rn : Reg) (sbz : BitVec 4) (rs : Reg) (sh : Shift) (rm : Reg) :
    Statement (.teqRegRs c rn sbz rs sh rm) := ⟨rfl, rfl⟩
theorem cmpImm (c : Cond) (rn : Reg) (sbz rot : BitVec 4) (imm8 : BitVec 8) :
    Statement (.cmpImm c rn sbz rot imm8) := ⟨rfl, rfl⟩
theorem cmpRegIs (c : Cond) (rn : Reg) (sbz : BitVec 4) (shamt : BitVec 5) (sh : Shift) (rm : Reg) :
    Statement (.cmpRegIs c rn sbz shamt sh rm) := ⟨rfl, rfl⟩
theorem cmpRegRs (c : Cond) (rn : Reg) (sbz : BitVec 4) (rs : Reg) (sh : Shift) (rm : Reg) :
    Statement (.cmpRegRs c rn sbz rs sh rm) := ⟨rfl, rfl⟩
theorem cmnImm (c : Cond) (rn : Reg) (sbz rot : BitVec 4) (imm8 : BitVec 8) :
    Statement (.cmnImm c rn sbz rot imm8) := ⟨rfl, rfl⟩
theorem cmnRegIs (c : Cond) (rn : Reg) (sbz : BitVec 4) (shamt : BitVec 5) (sh : Shift) (rm : Reg) :
    Statement (.cmnRegIs c rn sbz shamt sh rm) := ⟨rfl, rfl⟩
theorem cmnRegRs (c : Cond) (rn : Reg) (sbz : BitVec 4) (rs : Reg) (sh : Shift) (rm : Reg) :
    Statement (.cmnRegRs c rn sbz rs sh rm) := ⟨rfl, rfl⟩
theorem orrImm (c : Cond) (s : Bool) (rn rd : Reg) (rot : BitVec 4) (imm8 : BitVec 8) :
    Statement (.orrImm c s rn rd rot imm8) := ⟨rfl, rfl⟩
theorem orrRegIs (c : Cond) (s : Bool) (rn rd : Reg) (shamt : BitVec 5) (sh : Shift) (rm : Reg) :
    Statement (.orrRegIs c s rn rd shamt sh rm) := ⟨rfl, rfl⟩
theorem orrRegRs (c : Cond) (s : Bool) (rn rd rs : Reg) (sh : Shift) (rm : Reg) :
    Statement (.orrRegRs c s rn rd rs sh rm) := ⟨rfl, rfl⟩
theorem movImm (c : Cond) (s : Bool) (sbz : BitVec 4) (rd : Reg) (rot : BitVec 4) (imm8 : BitVec 8) :
    Statement (.movImm c s sbz rd rot imm8) := ⟨rfl, rfl⟩
theorem movRegIs (c : Cond) (s : Bool) (sbz : BitVec 4) (rd : Reg) (shamt : BitVec 5) (sh : Shift) (rm : Reg) :
    Statement (.movRegIs c s sbz rd shamt sh rm) := ⟨rfl, rfl⟩
theorem movRegRs (c : Cond) (s : Bool) (sbz : BitVec 4) (rd rs : Reg) (sh : Shift) (rm : Reg) :
    Statement (.movRegRs c s sbz rd rs sh rm) := ⟨rfl, rfl⟩
theorem bicImm (c : Cond) (s : Bool) (rn rd : Reg) (rot : BitVec 4) (imm8 : BitVec 8) :
    Statement (.bicImm c s rn rd rot imm8) := ⟨rfl, rfl⟩
theorem bicRegIs (c : Cond) (s : Bool) (rn rd : Reg) (shamt : BitVec 5) (sh : Shift) (rm : Reg) :
    Statement (.bicRegIs c s rn rd shamt sh rm) := ⟨rfl, rfl⟩
theorem bicRegRs (c : Cond) (s : Bool) (rn rd rs : Reg) (sh : Shift) (rm : Reg) :
    Statement (.bicRegRs c s rn rd rs sh rm) := ⟨rfl, rfl⟩
theorem mvnImm (c : Cond) (s : Bool) (sbz : BitVec 4) (rd : Reg) (rot : BitVec 4) (imm8 : BitVec 8) :
    Statement (.mvnImm c s sbz rd rot imm8) := ⟨rfl, rfl⟩
theorem mvnRegIs (c : Cond) (s : Bool) (sbz : BitVec 4) (rd : Reg) (shamt : BitVec 5) (sh : Shift) (rm : Reg) :
    Statement (.mvnRegIs c s sbz rd shamt sh rm) := ⟨rfl, rfl⟩
theorem mvnRegRs (c : Cond) (s : Bool) (sbz : BitVec 4) (rd rs : Reg) (sh : Shift) (rm : Reg) :
    Statement (.mvnRegRs c s sbz rd rs sh rm) := ⟨rfl, rfl⟩
theorem mrsCpsr (c : Cond) (rd : Reg) : Statement (.mrsCpsr c rd) := ⟨rfl, rfl⟩
theorem mrsSpsr (c : Cond) (rd : Reg) : Statement (.mrsSpsr c rd) := ⟨rfl, rfl⟩
theorem msrRegCpsr (c : Cond) (fmask : BitVec 4) (rm : Reg) : Statement (.msrRegCpsr c fmask rm) := ⟨rfl, rfl⟩
theorem msrRegSpsr (c : Cond) (fmask : BitVec 4) (rm : Reg) : Statement (.msrRegSpsr c fmask rm) := ⟨rfl, rfl⟩
theorem msrImmCpsr (c : Cond) (fmask rot : BitVec 4) (imm8 : BitVec 8) :
    Statement (.msrImmCpsr c fmask rot imm8) := ⟨rfl, rfl⟩
theorem msrImmSpsr (c : Cond) (fmask rot : BitVec 4) (imm8 : BitVec 8) :
    Statement (.msrImmSpsr c fmask rot imm8) := ⟨rfl, rfl⟩
theorem mul (c : Cond) (s : Bool) (rd : Reg) (sbz : BitVec 4) (rs rm : Reg) :
    Statement (.mul c s rd sbz rs rm) := ⟨rfl, rfl⟩
theorem mla (c : Cond) (s : Bool) (rd rn rs rm : Reg) : Statement (.mla c s rd rn rs rm) := ⟨rfl, rfl⟩
theorem umull (c : Cond) (s : Bool) (rdHi rdLo rs rm : Reg) : Statement (.umull c s rdHi rdLo rs rm) := ⟨rfl, rfl⟩
theorem umlal (c : Cond) (s : Bool) (rdHi rdLo rs rm : Reg) : Statement (.umlal c s rdHi rdLo rs rm) := ⟨rfl, rfl⟩
theorem smull (c : Cond) (s : Bool) (rdHi rdLo rs rm : Reg) : Statement (.smull c s rdHi rdLo rs rm) := ⟨rfl, rfl⟩
theorem smlal (c : Cond) (s : Bool) (rdHi rdLo rs rm : Reg) : Statement (.smlal c s rdHi rdLo rs rm) := ⟨rfl, rfl⟩
theorem swp (c : Cond) (rn rd rm : Reg) : Statement (.swp c rn rd rm) := ⟨rfl, rfl⟩
theorem swpb (c : Cond) (rn rd rm : Reg) : Statement (.swpb c rn rd rm) := ⟨rfl, rfl⟩
theorem bx (c : Cond) (rm : Reg) : Statement (.bx c rm) := ⟨rfl, rfl⟩
theorem strhReg (c : Cond) (p u w : Bool) (rn rd rm : Reg) : Statement (.strhReg c p u w rn rd rm) := ⟨rfl, rfl⟩
theorem strhImm (c : Cond) (p u w : Bool) (rn rd : Reg) (immH immL : BitVec 4) :
    Statement (.strhImm c p u w rn rd immH immL) := ⟨rfl, rfl⟩
theorem ldrhReg (c : Cond) (p u w : Bool) (rn rd rm : Reg) : Statement (.ldrhReg c p u w rn rd rm) := ⟨rfl, rfl⟩
theorem ldrhImm (c : Cond) (p u w : Bool) (rn rd : Reg) (immH immL : BitVec 4) :
    Statement (.ldrhImm c p u w rn rd immH immL) := ⟨rfl, rfl⟩
theorem ldrsbReg (c : Cond) (p u w : Bool) (rn rd rm : Reg) : Statement (.ldrsbReg c p u w rn rd rm) := ⟨rfl, rfl⟩
theorem ldrsbImm (c : Cond) (p u w : Bool) (rn rd : Reg) (immH immL : BitVec 4) :
    Statement (.ldrsbImm c p u w rn rd immH immL) := ⟨rfl, rfl⟩
theorem ldrshReg (c : Cond) (p u w : Bool) (rn rd rm : Reg) : Statement (.ldrshReg c p u w rn rd rm) := ⟨rfl, rfl⟩
theorem ldrshImm (c : Cond) (p u w : Bool) (rn rd : Reg) (immH immL : BitVec 4) :
    Statement (.ldrshImm c p u w rn rd immH immL) := ⟨rfl, rfl⟩
theorem strImmPre (c : Cond) (u w : Bool) (rn rd : Reg) (imm12 : BitVec 12) :
    Statement (.strImmPre c u w rn rd imm12) := ⟨rfl, rfl⟩
theorem strImmPost (c : Cond) (u : Bool) (rn rd : Reg) (imm12 : BitVec 12) :
    Statement (.strImmPost c u rn rd imm12) := ⟨rfl, rfl⟩
theorem strRegPre (c : Cond) (u w : Bool) (rn rd : Reg) (shamt : BitVec 5) (sh : Shift) (rm : Reg) :
    Statement (.strRegPre c u w rn rd shamt sh rm) := ⟨rfl, rfl⟩
theorem strRegPost (c : Cond) (u : Bool) (rn rd : Reg) (shamt : BitVec 5) (sh : Shift) (rm : Reg) :
    Statement (.strRegPost c u rn rd shamt sh rm) := ⟨rfl, rfl⟩
theorem strtImm (c : Cond) (u : Bool) (rn rd : Reg) (imm12 : BitVec 12) :
    Statement (.strtImm c u rn rd imm12) := ⟨rfl, rfl⟩
theorem strtReg (c : Cond) (u : Bool) (rn rd : Reg) (shamt : BitVec 5) (sh : Shift) (rm : Reg) :
    Statement (.strtReg c u rn rd shamt sh rm) := ⟨rfl, rfl⟩
theorem ldrImmPre (c : Cond) (u w : Bool) (rn rd : Reg) (imm12 : BitVec 12) :
    Statement (.ldrImmPre c u w rn rd imm12) := ⟨rfl, rfl⟩
theorem ldrImmPost (c : Cond) (u : Bool) (rn rd : Reg) (imm12 : BitVec 12) :
    Statement (.ldrImmPost c u rn rd imm12) := ⟨rfl, rfl⟩
theorem ldrRegPre (c : Cond) (u w : Bool) (rn rd : Reg) (shamt : BitVec 5) (sh : Shift) (rm : Reg) :
    Statement (.ldrRegPre c u w rn rd shamt sh rm) := ⟨rfl, rfl⟩
theorem ldrRegPost (c : Cond) (u : Bool) (rn rd : Reg) (shamt : BitVec 5) (sh : Shift) (rm : Reg) :
    Statement (.ldrRegPost c u rn rd shamt sh rm) := ⟨rfl, rfl⟩
theorem ldrtImm (c : Cond) (u : Bool) (rn rd : Reg) (imm12 : BitVec 12) :
    Statement (.ldrtImm c u rn rd imm12) := ⟨rfl, rfl⟩
theorem ldrtReg (c : Cond) (u : Bool) (rn rd : Reg) (shamt : BitVec 5) (sh : Shift) (rm : Reg) :
    Statement (.ldrtReg c u rn rd shamt sh rm) := ⟨rfl, rfl⟩
theorem strbImmPre (c : Cond) (u w : Bool) (rn rd : Reg) (imm12 : BitVec 12) :
    Statement (.strbImmPre c u w rn rd imm12) := ⟨rfl, rfl⟩
theorem strbImmPost (c : Cond) (u : Bool) (rn rd : Reg) (imm12 : BitVec 12) :
    Statement (.strbImmPost c u rn rd imm12) := ⟨rfl, rfl⟩
theorem strbRegPre (c : Cond) (u w : Bool) (rn rd : Reg) (shamt : BitVec 5) (sh : Shift) (rm : Reg) :
    Statement (.strbRegPre c u w rn rd shamt sh rm) := ⟨rfl, rfl⟩
theorem strbRegPost (c : Cond) (u : Bool) (rn rd : Reg) (shamt : BitVec 5) (sh : Shift) (rm : Reg) :
    Statement (.strbRegPost c u rn rd shamt sh rm) := ⟨rfl, rfl⟩
theorem strbtImm (c : Cond) (u : Bool) (rn rd : Reg) (imm12 : BitVec 12) :
    Statement (.strbtImm c u rn rd imm12) := ⟨rfl, rfl⟩
theorem strbtReg (c : Cond) (u : Bool) (rn rd : Reg) (shamt : BitVec 5) (sh : Shift) (rm : Reg) :
    Statement (.strbtReg c u rn rd shamt sh rm) := ⟨rfl, rfl⟩
theorem ldrbImmPre (c : Cond) (u w : Bool) (rn rd : Reg) (imm12 : BitVec 12) :
    Statement (.ldrbImmPre c u w rn rd imm12) := ⟨rfl, rfl⟩
theorem ldrbImmPost (c : Cond) (u : Bool) (rn rd : Reg) (imm12 : BitVec 12) :
    Statement (.ldrbImmPost c u rn rd imm12) := ⟨rfl, rfl⟩
theorem ldrbRegPre (c : Cond) (u w : Bool) (rn rd : Reg) (shamt : BitVec 5) (sh : Shift) (rm : Reg) :
    Statement (.ldrbRegPre c u w rn rd shamt sh rm) := ⟨rfl, rfl⟩
theorem ldrbRegPost (c : Cond) (u : Bool) (rn rd : Reg) (shamt : BitVec 5) (sh : Shift) (rm : Reg) :
    Statement (.ldrbRegPost c u rn rd shamt sh rm) := ⟨rfl, rfl⟩
theorem ldrbtImm (c : Cond) (u : Bool) (rn rd : Reg) (imm12 : BitVec 12) :
    Statement (.ldrbtImm c u rn rd imm12) := ⟨rfl, rfl⟩
theorem ldrbtReg (c : Cond) (u : Bool) (rn rd : Reg) (shamt : BitVec 5) (sh : Shift) (rm : Reg) :
    Statement (.ldrbtReg c u rn rd shamt sh rm) := ⟨rfl, rfl⟩
theorem und (c : Cond) (xHi : BitVec 20) (xLo : BitVec 4) : Statement (.und c xHi xLo) := ⟨rfl, rfl⟩
theorem stm (c : Cond) (p u w : Bool) (rn : Reg) (rlist : BitVec 16) :
    Statement (.stm c p u w rn rlist) := ⟨rfl, rfl⟩
theorem ldm (c : Cond) (p u w : Bool) (rn : Reg) (rlist : BitVec 16) :
    Statement (.ldm c p u w rn rlist) := ⟨rfl, rfl⟩
theorem stmUser (c : Cond) (p u w : Bool) (rn : Reg) (rlist : BitVec 16) :
    Statement (.stmUser c p u w rn rlist) := ⟨rfl, rfl⟩
theorem ldmUser (c : Cond) (p u w : Bool) (rn : Reg) (rlist : BitVec 15) :
    Statement (.ldmUser c p u w rn rlist) := ⟨rfl, rfl⟩
theorem ldmCpsr (c : Cond) (p u w : Bool) (rn : Reg) (rlist : BitVec 15) :
    Statement (.ldmCpsr c p u w rn rlist) := ⟨rfl, rfl⟩
theorem b (c : Cond) (imm24 : BitVec 24) : Statement (.b c imm24) := ⟨rfl, rfl⟩
theorem bl (c : Cond) (imm24 : BitVec 24) : Statement (.bl c imm24) := ⟨rfl, rfl⟩
theorem stc (c : Cond) (p u n w : Bool) (rn : Reg) (crd cp : BitVec 4) (offset8 : BitVec 8) :
    Statement (.stc c p u n w rn crd cp offset8) := ⟨rfl, rfl⟩
theorem ldc (c : Cond) (p u n w : Bool) (rn : Reg) (crd cp : BitVec 4) (offset8 : BitVec 8) :
    Statement (.ldc c p u n w rn crd cp offset8) := ⟨rfl, rfl⟩
theorem cdp (c : Cond) (op1 crn crd cp : BitVec 4) (op2 : BitVec 3) (crm : BitVec 4) :
    Statement (.cdp c op1 crn crd cp op2 crm) := ⟨rfl, rfl⟩
theorem mcr (c : Cond) (op1 : BitVec 3) (crn : BitVec 4) (rd : Reg) (cp : BitVec 4) (op2 : BitVec 3) (crm : BitVec 4) :
    Statement (.mcr c op1 crn rd cp op2 crm) := ⟨rfl, rfl⟩
theorem mrc (c : Cond) (op1 : BitVec 3) (crn : BitVec 4) (rd : Reg) (cp : BitVec 4) (op2 : BitVec 3) (crm : BitVec 4) :
    Statement (.mrc c op1 crn rd cp op2 crm) := ⟨rfl, rfl⟩
theorem swi (c : Cond) (comment : BitVec 24) : Statement (.swi c comment) := ⟨rfl, rfl⟩
theorem tLslImm (imm5 : BitVec 5) (rs rd : LoReg) : Statement (.tLslImm imm5 rs rd) := ⟨rfl, rfl⟩
theorem tLsrImm (imm5 : BitVec 5) (rs rd : LoReg) : Statement (.tLsrImm imm5 rs rd) := ⟨rfl, rfl⟩
theorem tAsrImm (imm5 : BitVec 5) (rs rd : LoReg) : Statement (.tAsrImm imm5 rs rd) := ⟨rfl, rfl⟩
theorem tAddReg (rn rs rd : LoReg) : Statement (.tAddReg rn rs rd) := ⟨rfl, rfl⟩
theorem tSubReg (rn rs rd : LoReg) : Statement (.tSubReg rn rs rd) := ⟨rfl, rfl⟩
theorem tAddImm3 (imm3 : BitVec 3) (rs rd : LoReg) : Statement (.tAddImm3 imm3 rs rd) := ⟨rfl, rfl⟩
theorem tSubImm3 (imm3 : BitVec 3) (rs rd : LoReg) : Statement (.tSubImm3 imm3 rs rd) := ⟨rfl, rfl⟩
theorem tMovImm8 (rd : LoReg) (imm8 : BitVec 8) : Statement (.tMovImm8 rd imm8) := ⟨rfl, rfl⟩
theorem tCmpImm8 (rd : LoReg) (imm8 : BitVec 8) : Statement (.tCmpImm8 rd imm8) := ⟨rfl, rfl⟩
theorem tAddImm8 (rd : LoReg) (imm8 : BitVec 8) : Statement (.tAddImm8 rd imm8) := ⟨rfl, rfl⟩
theorem tSubImm8 (rd : LoReg) (imm8 : BitVec 8) : Statement (.tSubImm8 rd imm8) := ⟨rfl, rfl⟩
theorem tAnd (rs rd : LoReg) : Statement (.tAnd rs rd) := ⟨rfl, rfl⟩
theorem tEor (rs rd : LoReg) : Statement (.tEor rs rd) := ⟨rfl, rfl⟩
theorem tLslReg (rs rd : LoReg) : Statement (.tLslReg rs rd) := ⟨rfl, rfl⟩
theorem tLsrReg (rs rd : LoReg) : Statement (.tLsrReg rs rd) := ⟨rfl, rfl⟩
theorem tAsrReg (rs rd : LoReg) : Statement (.tAsrReg rs rd) := ⟨rfl, rfl⟩
theorem tAdc (rs rd : LoReg) : Statement (.tAdc rs rd) := ⟨rfl, rfl⟩
theorem tSbc (rs rd : LoReg) : Statement (.tSbc rs rd) := ⟨rfl, rfl⟩
theorem tRor (rs rd : LoReg) : Statement (.tRor rs rd) := ⟨rfl, rfl⟩
theorem tTst (rs rd : LoReg) : Statement (.tTst rs rd) := ⟨rfl, rfl⟩
theorem tNeg (rs rd : LoReg) : Statement (.tNeg rs rd) := ⟨rfl, rfl⟩
theorem tCmpReg (rs rd : LoReg) : Statement (.tCmpReg rs rd) := ⟨rfl, rfl⟩
theorem tCmn (rs rd : LoReg) : Statement (.tCmn rs rd) := ⟨rfl, rfl⟩
theorem tOrr (rs rd : LoReg) : Statement (.tOrr rs rd) := ⟨rfl, rfl⟩
theorem tMul (rs rd : LoReg) : Statement (.tMul rs rd) := ⟨rfl, rfl⟩
theorem tBic (rs rd : LoReg) : Statement (.tBic rs rd) := ⟨rfl, rfl⟩
theorem tMvn (rs rd : LoReg) : Statement (.tMvn rs rd) := ⟨rfl, rfl⟩
theorem tAddHi (h1 h2 : Bool) (rs rd : LoReg) : Statement (.tAddHi h1 h2 rs rd) := ⟨rfl, rfl⟩
theorem tCmpHi (h1 h2 : Bool) (rs rd : LoReg) : Statement (.tCmpHi h1 h2 rs rd) := ⟨rfl, rfl⟩
theorem tMovHi (h1 h2 : Bool) (rs rd : LoReg) : Statement (.tMovHi h1 h2 rs rd) := ⟨rfl, rfl⟩
theorem tBx (h2 : Bool) (rs : LoReg) (sbz : BitVec 3) : Statement (.tBx h2 rs sbz) := ⟨rfl, rfl⟩
theorem tLdrPc (rd : LoReg) (imm8 : BitVec 8) : Statement (.tLdrPc rd imm8) := ⟨rfl, rfl⟩
theorem tStrReg (ro rb rd : LoReg) : Statement (.tStrReg ro rb rd) := ⟨rfl, rfl⟩
theorem tStrbReg (ro rb rd : LoReg) : Statement (.tStrbReg ro rb rd) := ⟨rfl, rfl⟩
theorem tLdrReg (ro rb rd : LoReg) : Statement (.tLdrReg ro rb rd) := ⟨rfl, rfl⟩
theorem tLdrbReg (ro rb rd : LoReg) : Statement (.tLdrbReg ro rb rd) := ⟨rfl, rfl⟩
theorem tStrhReg (ro rb rd : LoReg) : Statement (.tStrhReg ro rb rd) := ⟨rfl, rfl⟩
theorem tLdsbReg (ro rb rd : LoReg) : Statement (.tLdsbReg ro rb rd) := ⟨rfl, rfl⟩
theorem tLdrhReg (ro rb rd : LoReg) : Statement (.tLdrhReg ro rb rd) := ⟨rfl, rfl⟩
theorem tLdshReg (ro rb rd : LoReg) : Statement (.tLdshReg ro rb rd) := ⟨rfl, rfl⟩
theorem tStrImm (imm5 : BitVec 5) (rb rd : LoReg) : Statement (.tStrImm imm5 rb rd) := ⟨rfl, rfl⟩
theorem tLdrImm (imm5 : BitVec 5) (rb rd : LoReg) : Statement (.tLdrImm imm5 rb rd) := ⟨rfl, rfl⟩
theorem tStrbImm (imm5 : BitVec 5) (rb rd : LoReg) : Statement (.tStrbImm imm5 rb rd) := ⟨rfl, rfl⟩
theorem tLdrbImm (imm5 : BitVec 5) (rb rd : LoReg) : Statement (.tLdrbImm imm5 rb rd) := ⟨rfl, rfl⟩
theorem tStrhImm (imm5 : BitVec 5) (rb rd : LoReg) : Statement (.tStrhImm imm5 rb rd) := ⟨rfl, rfl⟩
theorem tLdrhImm (imm5 : BitVec 5) (rb rd : LoReg) : Statement (.tLdrhImm imm5 rb rd) := ⟨rfl, rfl⟩
theorem tStrSp (rd : LoReg) (imm8 : BitVec 8) : Statement (.tStrSp rd imm8) := ⟨rfl, rfl⟩
theorem tLdrSp (rd : LoReg) (imm8 : BitVec 8) : Statement (.tLdrSp rd imm8) := ⟨rfl, rfl⟩
theorem tAddPc (rd : LoReg) (imm8 : BitVec 8) : Statement (.tAddPc rd imm8) := ⟨rfl, rfl⟩
theorem tAddSp (rd : LoReg) (imm8 : BitVec 8) : Statement (.tAddSp rd imm8) := ⟨rfl, rfl⟩
theorem tAddSpimm (imm7 : BitVec 7) : Statement (.tAddSpimm imm7) := ⟨rfl, rfl⟩
theorem tSubSpimm (imm7 : BitVec 7) : Statement (.tSubSpimm imm7) := ⟨rfl, rfl⟩
theorem tPush (r : Bool) (rlist : BitVec 8) : Statement (.tPush r rlist) := ⟨rfl, rfl⟩
theorem tPop (r : Bool) (rlist : BitVec 8) : Statement (.tPop r rlist) := ⟨rfl, rfl⟩
theorem tStmia (rb : LoReg) (rlist : BitVec 8) : Statement (.tStmia rb rlist) := ⟨rfl, rfl⟩
theorem tLdmia (rb : LoReg) (rlist : BitVec 8) : Statement (.tLdmia rb rlist) := ⟨rfl, rfl⟩
theorem tBeq (imm8 : BitVec 8) : Statement (.tBeq imm8) := ⟨rfl, rfl⟩
theorem tBne (imm8 : BitVec 8) : Statement (.tBne imm8) := ⟨rfl, rfl⟩
theorem tBcs (imm8 : BitVec 8) : Statement (.tBcs imm8) := ⟨rfl, rfl⟩
theorem tBcc (imm8 : BitVec 8) : Statement (.tBcc imm8) := ⟨rfl, rfl⟩
theorem tBmi (imm8 : BitVec 8) : Statement (.tBmi imm8) := ⟨rfl, rfl⟩
theorem tBpl (imm8 : BitVec 8) : Statement (.tBpl imm8) := ⟨rfl, rfl⟩
theorem tBvs (imm8 : BitVec 8) : Statement (.tBvs imm8) := ⟨rfl, rfl⟩
theorem tBvc (imm8 : BitVec 8) : Statement (.tBvc imm8) := ⟨rfl, rfl⟩
theorem tBhi (imm8 : BitVec 8) : Statement (.tBhi imm8) := ⟨rfl, rfl⟩
theorem tBls (imm8 : BitVec 8) : Statement (.tBls imm8) := ⟨rfl, rfl⟩
theorem tBge (imm8 : BitVec 8) : Statement (.tBge imm8) := ⟨rfl, rfl⟩
theorem tBlt (imm8 : BitVec 8) : Statement (.tBlt imm8) := ⟨rfl, rfl⟩
theorem tBgt (imm8 : BitVec 8) : Statement (.tBgt imm8) := ⟨rfl, rfl⟩
theorem tBle (imm8 : BitVec 8) : Statement (.tBle imm8) := ⟨rfl, rfl⟩
theorem tSwi (comment : BitVec 8) : Statement (.tSwi comment) := ⟨rfl, rfl⟩
theorem tB (imm11 : BitVec 11) : Statement (.tB imm11) := ⟨rfl, rfl⟩
theorem tBlHi (imm11 : BitVec 11) : Statement (.tBlHi imm11) := ⟨rfl, rfl⟩
theorem tBlLo (imm11 : BitVec 11) : Statement (.tBlLo imm11) := ⟨rfl, rfl⟩

end Sys2Proof.Laws.Width
end

