-- ==== Sys2Proof/Tests/Slice0.lean ====
section
/-! SUPPORT. Tests. Every expected value is written from the spec: words from the format tables of 30_encoding and from
95_test_vectors, results from 95_test_vectors. At the end, a witness for the hypotheses of each statement. -/

namespace Sys2Proof.Tests

open Sys2Proof.Machine

set_option Elab.async false

/-! ## Decoding: for every constructor a word written from the format tables (30_encoding R114, R125) -/

theorem test_decode_wide_1 :
    decodeWide 0xE217ADCB = some (.andImm .al true 7 10 13 0xcb) ∧
    decodeWide 0xE0110002 = some (.andRegIs .al true 1 0 0 .lsl 2) ∧
    decodeWide 0xE017AD50 = some (.andRegRs .al true 7 10 13 .asr 0) ∧
    decodeWide 0xE237ADCB = some (.eorImm .al true 7 10 13 0xcb) ∧
    decodeWide 0xE0310001 = some (.eorRegIs .al true 1 0 0 .lsl 1) ∧
    decodeWide 0xE037AD50 = some (.eorRegRs .al true 7 10 13 .asr 0) ∧
    decodeWide 0xE25EF002 = some (.subImm .al true 14 15 0 0x2) ∧
    decodeWide 0xE0510002 = some (.subRegIs .al true 1 0 0 .lsl 2) ∧
    decodeWide 0xE057AD50 = some (.subRegRs .al true 7 10 13 .asr 0) ∧
    decodeWide 0xE2710000 = some (.rsbImm .al true 1 0 0 0x0) ∧
    decodeWide 0xE077A6C0 = some (.rsbRegIs .al true 7 10 13 .asr 0) ∧
    decodeWide 0xE077AD50 = some (.rsbRegRs .al true 7 10 13 .asr 0) ∧
    decodeWide 0xE2815F4B = some (.addImm .al false 1 5 15 0x4b) ∧
    decodeWide 0xE0910002 = some (.addRegIs .al true 1 0 0 .lsl 2) ∧
    decodeWide 0xE08F0211 = some (.addRegRs .al false 15 0 2 .lsl 1) ∧
    decodeWide 0xE2B7ADCB = some (.adcImm .al true 7 10 13 0xcb) := by
  decide +kernel

theorem test_decode_wide_2 :
    decodeWide 0xE0B10002 = some (.adcRegIs .al true 1 0 0 .lsl 2) ∧
    decodeWide 0xE0B7AD50 = some (.adcRegRs .al true 7 10 13 .asr 0) ∧
    decodeWide 0xE2D7ADCB = some (.sbcImm .al true 7 10 13 0xcb) ∧
    decodeWide 0xE0D10002 = some (.sbcRegIs .al true 1 0 0 .lsl 2) ∧
    decodeWide 0xE0D7AD50 = some (.sbcRegRs .al true 7 10 13 .asr 0) ∧
    decodeWide 0xE2F7ADCB = some (.rscImm .al true 7 10 13 0xcb) ∧
    decodeWide 0xE0F10002 = some (.rscRegIs .al true 1 0 0 .lsl 2) ∧
    decodeWide 0xE0F7AD50 = some (.rscRegRs .al true 7 10 13 .asr 0) ∧
    decodeWide 0xE3110001 = some (.tstImm .al 1 0 0 0x1) ∧
    decodeWide 0xE114754D = some (.tstRegIs .al 4 7 10 .asr 13) ∧
    decodeWide 0xE1147A5D = some (.tstRegRs .al 4 7 10 .asr 13) ∧
    decodeWide 0xE3347A96 = some (.teqImm .al 4 7 10 0x96) ∧
    decodeWide 0xE1310002 = some (.teqRegIs .al 1 0 0 .lsl 2) ∧
    decodeWide 0xE1347A5D = some (.teqRegRs .al 4 7 10 .asr 13) ∧
    decodeWide 0xE3547A96 = some (.cmpImm .al 4 7 10 0x96) ∧
    decodeWide 0xE1510002 = some (.cmpRegIs .al 1 0 0 .lsl 2) := by
  decide +kernel

theorem test_decode_wide_3 :
    decodeWide 0xE1547A5D = some (.cmpRegRs .al 4 7 10 .asr 13) ∧
    decodeWide 0xE3747A96 = some (.cmnImm .al 4 7 10 0x96) ∧
    decodeWide 0xE1710002 = some (.cmnRegIs .al 1 0 0 .lsl 2) ∧
    decodeWide 0xE1747A5D = some (.cmnRegRs .al 4 7 10 .asr 13) ∧
    decodeWide 0xE38DDC01 = some (.orrImm .al false 13 13 12 0x1) ∧
    decodeWide 0xE1910002 = some (.orrRegIs .al true 1 0 0 .lsl 2) ∧
    decodeWide 0xE197AD50 = some (.orrRegRs .al true 7 10 13 .asr 0) ∧
    decodeWide 0xE3A01402 = some (.movImm .al false 0 1 4 0x2) ∧
    decodeWide 0xE1B00261 = some (.movRegIs .al true 0 0 4 .ror 1) ∧
    decodeWide 0xE1B00271 = some (.movRegRs .al true 0 0 2 .ror 1) ∧
    decodeWide 0xE3D100FF = some (.bicImm .al true 1 0 0 0xff) ∧
    decodeWide 0xE1D7A6C0 = some (.bicRegIs .al true 7 10 13 .asr 0) ∧
    decodeWide 0xE1D7AD50 = some (.bicRegRs .al true 7 10 13 .asr 0) ∧
    decodeWide 0xE3F00000 = some (.mvnImm .al true 0 0 0 0x0) ∧
    decodeWide 0xE1F7A6C0 = some (.mvnRegIs .al true 7 10 13 .asr 0) ∧
    decodeWide 0xE1F7AD50 = some (.mvnRegRs .al true 7 10 13 .asr 0) := by
  decide +kernel

theorem test_decode_wide_4 :
    decodeWide 0xE10F0000 = some (.mrsCpsr .al 0) ∧
    decodeWide 0xE14F0000 = some (.mrsSpsr .al 0) ∧
    decodeWide 0xE121F000 = some (.msrRegCpsr .al 1 0) ∧
    decodeWide 0xE16FF000 = some (.msrRegSpsr .al 15 0) ∧
    decodeWide 0xE321F010 = some (.msrImmCpsr .al 1 0 0x10) ∧
    decodeWide 0xE364F72C = some (.msrImmSpsr .al 4 7 0x2c) ∧
    decodeWide 0xE0000291 = some (.mul .al false 0 0 2 1) ∧
    decodeWide 0xE0203291 = some (.mla .al false 0 3 2 1) ∧
    decodeWide 0xE0810392 = some (.umull .al false 1 0 3 2) ∧
    decodeWide 0xE0A10392 = some (.umlal .al false 1 0 3 2) ∧
    decodeWide 0xE0C10392 = some (.smull .al false 1 0 3 2) ∧
    decodeWide 0xE0E10392 = some (.smlal .al false 1 0 3 2) ∧
    decodeWide 0xE1020091 = some (.swp .al 2 0 1) ∧
    decodeWide 0xE1420091 = some (.swpb .al 2 0 1) ∧
    decodeWide 0xE12FFF10 = some (.bx .al 0) ∧
    decodeWide 0xE12D00B3 = some (.strhReg .al true false true 13 0 3) := by
  decide +kernel

theorem test_decode_wide_5 :
    decodeWide 0xE1C200B8 = some (.strhImm .al true true false 2 0 0 8) ∧
    decodeWide 0xE19100B2 = some (.ldrhReg .al true true false 1 0 2) ∧
    decodeWide 0xE1D560B2 = some (.ldrhImm .al true true false 5 6 0 2) ∧
    decodeWide 0xE13D00D3 = some (.ldrsbReg .al true false true 13 0 3) ∧
    decodeWide 0xE1D100D0 = some (.ldrsbImm .al true true false 1 0 0 0) ∧
    decodeWide 0xE13D00F3 = some (.ldrshReg .al true false true 13 0 3) ∧
    decodeWide 0xE1D100F0 = some (.ldrshImm .al true true false 1 0 0 0) ∧
    decodeWide 0xE5813004 = some (.strImmPre .al true false 1 3 0x4) ∧
    decodeWide 0xE4810004 = some (.strImmPost .al true 1 0 0x4) ∧
    decodeWide 0xE78AD843 = some (.strRegPre .al true false 10 13 16 .asr 3) ∧
    decodeWide 0xE687A6C0 = some (.strRegPost .al true 7 10 13 .asr 0) ∧
    decodeWide 0xE4A7A396 = some (.strtImm .al true 7 10 0x396) ∧
    decodeWide 0xE6A7A6C0 = some (.strtReg .al true 7 10 13 .asr 0) ∧
    decodeWide 0xE59F0010 = some (.ldrImmPre .al true false 15 0 0x10) ∧
    decodeWide 0xE4110004 = some (.ldrImmPost .al false 1 0 0x4) ∧
    decodeWide 0xE7110002 = some (.ldrRegPre .al false false 1 0 0 .lsl 2) := by
  decide +kernel

theorem test_decode_wide_6 :
    decodeWide 0xE697A6C0 = some (.ldrRegPost .al true 7 10 13 .asr 0) ∧
    decodeWide 0xE4B10004 = some (.ldrtImm .al true 1 0 0x4) ∧
    decodeWide 0xE6B7A6C0 = some (.ldrtReg .al true 7 10 13 .asr 0) ∧
    decodeWide 0xE5C21101 = some (.strbImmPre .al true false 2 1 0x101) ∧
    decodeWide 0xE4C7A396 = some (.strbImmPost .al true 7 10 0x396) ∧
    decodeWide 0xE7CAD843 = some (.strbRegPre .al true false 10 13 16 .asr 3) ∧
    decodeWide 0xE6C7A6C0 = some (.strbRegPost .al true 7 10 13 .asr 0) ∧
    decodeWide 0xE4E7A396 = some (.strbtImm .al true 7 10 0x396) ∧
    decodeWide 0xE6E7A6C0 = some (.strbtReg .al true 7 10 13 .asr 0) ∧
    decodeWide 0xE5512003 = some (.ldrbImmPre .al false false 1 2 0x3) ∧
    decodeWide 0xE4D7A396 = some (.ldrbImmPost .al true 7 10 0x396) ∧
    decodeWide 0xE7DAD843 = some (.ldrbRegPre .al true false 10 13 16 .asr 3) ∧
    decodeWide 0xE6D7A6C0 = some (.ldrbRegPost .al true 7 10 13 .asr 0) ∧
    decodeWide 0xE4F7A396 = some (.ldrbtImm .al true 7 10 0x396) ∧
    decodeWide 0xE6F7A6C0 = some (.ldrbtReg .al true 7 10 13 .asr 0) ∧
    decodeWide 0xE7F000F0 = some (.und .al 0xf8007 0) := by
  decide +kernel

theorem test_decode_wide_7 :
    decodeWide 0xE8800006 = some (.stm .al false true false 0 0x6) ∧
    decodeWide 0xE8908002 = some (.ldm .al false true false 0 0x8002) ∧
    decodeWide 0xE8C06000 = some (.stmUser .al false true false 0 0x6000) ∧
    decodeWide 0xE97D61CB = some (.ldmUser .al true false true 13 0x61cb) ∧
    decodeWide 0xE8FD800F = some (.ldmCpsr .al false true true 13 0xf) ∧
    decodeWide 0xEA000002 = some (.b .al 0x2) ∧
    decodeWide 0x0BFFFFDE = some (.bl .eq 0xffffde) ∧
    decodeWide 0xED800000 = some (.stc .al true true false false 0 0 0 0x0) ∧
    decodeWide 0xED900000 = some (.ldc .al true true false false 0 0 0 0x0) ∧
    decodeWide 0xEE000000 = some (.cdp .al 0 0 0 0 0 0) ∧
    decodeWide 0xEE000010 = some (.mcr .al 0 0 0 0 0 0) ∧
    decodeWide 0xEE100010 = some (.mrc .al 0 0 0 0 0 0) ∧
    decodeWide 0xEF000042 = some (.swi .al 0x42) := by
  decide +kernel

theorem test_decode_narrow_1 :
    decodeNarrow 0x0088 = some (.tLslImm 2 1 0) ∧
    decodeNarrow 0x0808 = some (.tLsrImm 0 1 0) ∧
    decodeNarrow 0x1008 = some (.tAsrImm 0 1 0) ∧
    decodeNarrow 0x1860 = some (.tAddReg 1 4 0) ∧
    decodeNarrow 0x1A88 = some (.tSubReg 2 1 0) ∧
    decodeNarrow 0x1DC8 = some (.tAddImm3 7 1 0) ∧
    decodeNarrow 0x1E48 = some (.tSubImm3 1 1 0) ∧
    decodeNarrow 0x2003 = some (.tMovImm8 0 0x3) ∧
    decodeNarrow 0x28FF = some (.tCmpImm8 0 0xff) ∧
    decodeNarrow 0x3201 = some (.tAddImm8 2 0x1) ∧
    decodeNarrow 0x3B01 = some (.tSubImm8 3 0x1) ∧
    decodeNarrow 0x4008 = some (.tAnd 1 0) ∧
    decodeNarrow 0x4048 = some (.tEor 1 0) ∧
    decodeNarrow 0x4088 = some (.tLslReg 1 0) ∧
    decodeNarrow 0x40C8 = some (.tLsrReg 1 0) ∧
    decodeNarrow 0x4108 = some (.tAsrReg 1 0) := by
  decide +kernel

theorem test_decode_narrow_2 :
    decodeNarrow 0x4148 = some (.tAdc 1 0) ∧
    decodeNarrow 0x4188 = some (.tSbc 1 0) ∧
    decodeNarrow 0x41C8 = some (.tRor 1 0) ∧
    decodeNarrow 0x4208 = some (.tTst 1 0) ∧
    decodeNarrow 0x4248 = some (.tNeg 1 0) ∧
    decodeNarrow 0x4288 = some (.tCmpReg 1 0) ∧
    decodeNarrow 0x42C8 = some (.tCmn 1 0) ∧
    decodeNarrow 0x4308 = some (.tOrr 1 0) ∧
    decodeNarrow 0x4348 = some (.tMul 1 0) ∧
    decodeNarrow 0x4388 = some (.tBic 1 0) ∧
    decodeNarrow 0x43C8 = some (.tMvn 1 0) ∧
    decodeNarrow 0x4440 = some (.tAddHi false true 0 0) ∧
    decodeNarrow 0x4540 = some (.tCmpHi false true 0 0) ∧
    decodeNarrow 0x4678 = some (.tMovHi false true 7 0) ∧
    decodeNarrow 0x4770 = some (.tBx true 6 0) ∧
    decodeNarrow 0x4801 = some (.tLdrPc 0 0x1) := by
  decide +kernel

theorem test_decode_narrow_3 :
    decodeNarrow 0x5088 = some (.tStrReg 2 1 0) ∧
    decodeNarrow 0x5488 = some (.tStrbReg 2 1 0) ∧
    decodeNarrow 0x5888 = some (.tLdrReg 2 1 0) ∧
    decodeNarrow 0x5C88 = some (.tLdrbReg 2 1 0) ∧
    decodeNarrow 0x5288 = some (.tStrhReg 2 1 0) ∧
    decodeNarrow 0x5688 = some (.tLdsbReg 2 1 0) ∧
    decodeNarrow 0x5A88 = some (.tLdrhReg 2 1 0) ∧
    decodeNarrow 0x5E88 = some (.tLdshReg 2 1 0) ∧
    decodeNarrow 0x6048 = some (.tStrImm 1 1 0) ∧
    decodeNarrow 0x6808 = some (.tLdrImm 0 1 0) ∧
    decodeNarrow 0x7048 = some (.tStrbImm 1 1 0) ∧
    decodeNarrow 0x7848 = some (.tLdrbImm 1 1 0) ∧
    decodeNarrow 0x8048 = some (.tStrhImm 1 1 0) ∧
    decodeNarrow 0x8848 = some (.tLdrhImm 1 1 0) ∧
    decodeNarrow 0x9001 = some (.tStrSp 0 0x1) ∧
    decodeNarrow 0x9801 = some (.tLdrSp 0 0x1) := by
  decide +kernel

theorem test_decode_narrow_4 :
    decodeNarrow 0xA001 = some (.tAddPc 0 0x1) ∧
    decodeNarrow 0xA802 = some (.tAddSp 0 0x2) ∧
    decodeNarrow 0xB002 = some (.tAddSpimm 0x2) ∧
    decodeNarrow 0xB082 = some (.tSubSpimm 0x2) ∧
    decodeNarrow 0xB510 = some (.tPush true 0x10) ∧
    decodeNarrow 0xBD10 = some (.tPop true 0x10) ∧
    decodeNarrow 0xC006 = some (.tStmia 0 0x6) ∧
    decodeNarrow 0xC803 = some (.tLdmia 0 0x3) ∧
    decodeNarrow 0xD002 = some (.tBeq 0x2) ∧
    decodeNarrow 0xD1FE = some (.tBne 0xfe) ∧
    decodeNarrow 0xD2B0 = some (.tBcs 0xb0) ∧
    decodeNarrow 0xD3B0 = some (.tBcc 0xb0) ∧
    decodeNarrow 0xD4B0 = some (.tBmi 0xb0) ∧
    decodeNarrow 0xD5B0 = some (.tBpl 0xb0) ∧
    decodeNarrow 0xD6B0 = some (.tBvs 0xb0) ∧
    decodeNarrow 0xD7B0 = some (.tBvc 0xb0) := by
  decide +kernel

theorem test_decode_narrow_5 :
    decodeNarrow 0xD8B0 = some (.tBhi 0xb0) ∧
    decodeNarrow 0xD9B0 = some (.tBls 0xb0) ∧
    decodeNarrow 0xDAB0 = some (.tBge 0xb0) ∧
    decodeNarrow 0xDBFC = some (.tBlt 0xfc) ∧
    decodeNarrow 0xDCB0 = some (.tBgt 0xb0) ∧
    decodeNarrow 0xDDB0 = some (.tBle 0xb0) ∧
    decodeNarrow 0xDF05 = some (.tSwi 0x5) ∧
    decodeNarrow 0xE002 = some (.tB 0x2) ∧
    decodeNarrow 0xF000 = some (.tBlHi 0x0) ∧
    decodeNarrow 0xF802 = some (.tBlLo 0x2) := by
  decide +kernel

/-! ## Ill-formed operands: one term for each check, with the reason that WellFormed gives -/

theorem test_wf_refuses_transfers :
    (Instr.movRegRs .al true 0 0 15 .lsl 1).unpredictable = some .shiftAmountIsPc ∧
    (Instr.ldrImmPre .al true true 15 0 4).unpredictable = some .writebackToPc ∧
    (Instr.ldrRegPre .al true false 1 0 0 .lsl 15).unpredictable = some .offsetIsPc ∧
    (Instr.ldrRegPost .al true 1 0 0 .lsl 1).unpredictable = some .offsetIsPostIndexedBase ∧
    (Instr.ldrbImmPre .al true false 1 15 0).unpredictable = some .narrowTransferOfPc ∧
    (Instr.ldrhImm .al false true true 1 0 0 2).unpredictable = some .halfwordPostIndexedW ∧
    (Instr.swp .al 1 0 15).unpredictable = some .swapUsesPc := by decide +kernel

theorem test_wf_refuses_others :
    (Instr.mul .al false 0 0 1 15).unpredictable = some .multiplyUsesPc ∧
    (Instr.mla .al false 1 2 3 1).unpredictable = some .multiplyRdIsRm ∧
    (Instr.umull .al false 1 1 2 3).unpredictable = some .multiplyHiIsLo ∧
    (Instr.stm .al true false false 15 1).unpredictable = some .blockBaseIsPc ∧
    (Instr.ldmUser .al true false true 0 1).unpredictable = some .userBankWriteback ∧
    (Instr.tPush false 0).unpredictable = some .emptyList ∧
    (Instr.mrsCpsr .al 15).unpredictable = some .statusReadToPc ∧
    (Instr.msrRegSpsr .al 9 15).unpredictable = some .statusWriteFromPc := by decide +kernel

theorem test_wf_accepts :
    (Instr.movRegRs .al true 0 0 14 .lsl 15).wf = true ∧ (Instr.ldrImmPre .al true false 15 15 4).wf = true ∧
    (Instr.mul .al false 0 15 1 2).wf = true ∧ (Instr.tPush true 0).wf = true := by decide +kernel

/-! ## Building and looking at states -/

/-- The machine after reset, in mode `m`, with flags N, Z, C, V, some registers and some words of memory. -/
def given (m : Mode) (nzcv : BitVec 4) (regs : List (Reg × Word)) (words : List (Nat × Word)) : State :=
  let s := regs.foldl (fun s r => s.setReg r.1 r.2) State.reset
  { s with
    cpsr := { n := nzcv.getLsbD 3, z := nzcv.getLsbD 2, c := nzcv.getLsbD 1, v := nzcv.getLsbD 0
              i := false, f := false, t := false, mode := m }
    mem := words.foldl (fun mem w => Memory.write32 mem w.1 w.2) [] }

/-- In Supervisor mode. -/
def svc (nzcv : BitVec 4) (regs : List (Reg × Word)) : State := given .supervisor nzcv regs []

/-- The same in the narrow set. -/
def narrow (s : State) : State := { s with cpsr := { s.cpsr with t := true } }

/-- With an SPSR. -/
def saved (w : Word) (s : State) : State := { s with spsr := Saved.ofWord w }

/-- The outcome is a next state of which `p` holds. -/
def goes (o : Outcome) (p : State → Bool) : Bool :=
  match o with
  | .next t => p t
  | .fault _ => false
  | .refused _ => false

/-- The outcome is this refusal. -/
def stops (o : Outcome) (r : Refusal) : Bool :=
  match o with
  | .next _ => false
  | .fault _ => false
  | .refused q => q == r

/-- N, Z, C, V. -/
def nzcv (s : State) : BitVec 4 :=
  (BitVec.ofBool s.cpsr.n ++ BitVec.ofBool s.cpsr.z ++ BitVec.ofBool s.cpsr.c ++ BitVec.ofBool s.cpsr.v : BitVec 4)

/-- N and Z alone. -/
def nz (s : State) : BitVec 2 := (BitVec.ofBool s.cpsr.n ++ BitVec.ofBool s.cpsr.z : BitVec 2)

/-- The wide word leaves these register values. -/
def regsAfter (s : State) (w : Word) (regs : List (Reg × Word)) : Bool :=
  goes (s.runWide w) fun t => regs.all fun r => t.reg r.1 == r.2

/-- The wide word leaves `v` in r0 and these flags. -/
def aluAfter (s : State) (w v : Word) (flags : BitVec 4) : Bool :=
  goes (s.runWide w) fun t => t.reg 0 == v && nzcv t == flags

/-- The narrow halfword leaves these register values. -/
def loRegsAfter (s : State) (h : Half) (regs : List (Reg × Word)) : Bool :=
  goes ((narrow s).runNarrow h) fun t => regs.all fun r => t.reg r.1 == r.2

/-- The narrow halfword leaves `v` in r0 and these flags. -/
def loAluAfter (s : State) (h : Half) (v : Word) (flags : BitVec 4) : Bool :=
  goes ((narrow s).runNarrow h) fun t => t.reg 0 == v && nzcv t == flags

/-- The wide word leaves these words in memory. -/
def wordsAfter (s : State) (w : Word) (words : List (Nat × Word)) : Bool :=
  goes (s.runWide w) fun t => words.all fun x => Memory.read32 t.mem x.1 == x.2

/-- The narrow halfword leaves these words in memory. -/
def loWordsAfter (s : State) (h : Half) (words : List (Nat × Word)) : Bool :=
  goes ((narrow s).runNarrow h) fun t => words.all fun x => Memory.read32 t.mem x.1 == x.2

/-- After an instruction of `width` bytes the next fetch is at `a`. -/
def nextFetch (width a : Word) (t : State) : Bool := (t.finishStep width).prepared.currentInstruction == a

/-! ## The shifter (95 section 2.2; flags V 0 before) -/

theorem test_movs_shift_by_immediate :
    aluAfter (svc 0 [(1, 0x80000001)]) 0xE1B00081 0x00000002 0b0010 ∧
    aluAfter (svc 0 [(1, 0x80000000)]) 0xE1B00021 0 0b0110 ∧
    aluAfter (svc 0 [(1, 0x80000000)]) 0xE1B00041 0xFFFFFFFF 0b1010 ∧
    aluAfter (svc 0b0010 [(1, 0x00000002)]) 0xE1B00061 0x80000001 0b1000 ∧
    aluAfter (svc 0 [(1, 0x0000000F)]) 0xE1B00261 0xF0000000 0b1010 := by decide +kernel

theorem test_movs_shift_by_register :
    aluAfter (svc 0 [(1, 1), (2, 32)]) 0xE1B00211 0 0b0110 ∧
    aluAfter (svc 0 [(1, 0x80000000), (2, 33)]) 0xE1B00231 0 0b0100 ∧
    aluAfter (svc 0 [(1, 0x80000000), (2, 32)]) 0xE1B00251 0xFFFFFFFF 0b1010 ∧
    aluAfter (svc 0 [(1, 0x80000001), (2, 32)]) 0xE1B00271 0x80000001 0b1010 ∧
    aluAfter (svc 0 [(1, 0x80000001), (2, 0x100)]) 0xE1B00211 0x80000001 0b1000 := by decide +kernel

theorem test_movs_immediate :
    aluAfter (svc 0 []) 0xE3B004FF 0xFF000000 0b1010 ∧
    aluAfter (svc 0 []) 0xE3B00102 0x80000000 0b1010 := by decide +kernel

/-! ## Data processing (95 sections 2.3 and 2.4) -/

theorem test_add_and_cmn :
    aluAfter (svc 0 [(1, 0x7FFFFFFF), (2, 1)]) 0xE0910002 0x80000000 0b1001 ∧
    aluAfter (svc 0 [(1, 0x80000000), (2, 0x80000000)]) 0xE0910002 0 0b0111 ∧
    aluAfter (svc 0b1001 [(0, 0xFFFFFFFF), (1, 1)]) 0xE0800001 0 0b1001 ∧
    aluAfter (svc 0 [(1, 1), (2, 0xFFFFFFFF)]) 0xE1710002 0 0b0110 := by decide +kernel

theorem test_sub_and_cmp :
    aluAfter (svc 0 [(1, 0), (2, 1)]) 0xE0510002 0xFFFFFFFF 0b1000 ∧
    aluAfter (svc 0 [(1, 0x80000000), (2, 1)]) 0xE0510002 0x7FFFFFFF 0b0011 ∧
    aluAfter (svc 0 [(1, 3), (2, 5)]) 0xE1510002 0 0b1000 ∧
    aluAfter (svc 0 [(1, 5), (2, 3)]) 0xE1510002 0 0b0010 := by decide +kernel

theorem test_adc_sbc :
    aluAfter (svc 0b0010 [(1, 0xFFFFFFFF), (2, 0)]) 0xE0B10002 0 0b0110 ∧
    aluAfter (svc 0b0010 [(1, 1), (2, 1)]) 0xE0B10002 3 0b0000 ∧
    aluAfter (svc 0 [(1, 5), (2, 3)]) 0xE0D10002 1 0b0010 ∧
    aluAfter (svc 0 [(1, 0), (2, 0)]) 0xE0D10002 0xFFFFFFFF 0b1000 := by decide +kernel

theorem test_rsb_rsc :
    aluAfter (svc 0 [(1, 1)]) 0xE2710000 0xFFFFFFFF 0b1000 ∧
    aluAfter (svc 0 [(1, 0x80000000)]) 0xE2710000 0x80000000 0b1001 ∧
    aluAfter (svc 0 [(1, 3), (2, 5)]) 0xE0F10002 1 0b0010 := by decide +kernel

theorem test_logical :
    aluAfter (svc 0b0010 [(1, 0xF0F0F0F0), (2, 0x0FF00FF0)]) 0xE0110002 0x00F000F0 0b0010 ∧
    aluAfter (svc 0 [(1, 0x12345678)]) 0xE0310001 0 0b0100 ∧
    aluAfter (svc 0 [(1, 0x80000000), (2, 1)]) 0xE1910002 0x80000001 0b1000 ∧
    aluAfter (svc 0b0011 [(1, 0x000000FF)]) 0xE3D100FF 0 0b0111 ∧
    aluAfter (svc 0 []) 0xE3F00000 0xFFFFFFFF 0b1000 := by decide +kernel

theorem test_tst_teq :
    aluAfter (svc 0 [(0, 9), (1, 2)]) 0xE3110001 9 0b0100 ∧
    aluAfter (svc 0 [(0, 9), (1, 0xABCD0000), (2, 0xABCD0000)]) 0xE1310002 9 0b0100 ∧
    aluAfter (svc 0 [(0, 9), (1, 0x80000000), (2, 0)]) 0xE1310002 9 0b1000 := by decide +kernel

theorem test_conditions :
    aluAfter (svc 0b0100 [(0, 5)]) 0x02800001 6 0b0100 ∧
    aluAfter (svc 0 [(0, 5)]) 0x02800001 5 0 ∧
    aluAfter (svc 0b0100 [(0, 5)]) 0xF2800001 5 0b0100 ∧
    goes ((svc 0b0100 []).runWide 0xF7F000F0) (· == svc 0b0100 []) ∧
    goes ((svc 0 []).runWide 0x07F000F0) (· == svc 0 []) := by decide +kernel

/-! ## r15 as an operand and as a destination (95 section 2.5; A = 0x100) -/

theorem test_pc_as_operand :
    regsAfter (svc 0 [(15, 0x108)]) 0xE1A0000F [(0, 0x108)] ∧
    regsAfter (svc 0 [(15, 0x108)]) 0xE08F000F [(0, 0x210)] ∧
    regsAfter (svc 0 [(15, 0x108), (1, 0)]) 0xE1A0011F [(0, 0x10C)] ∧
    regsAfter (svc 0 [(15, 0x108), (1, 1), (2, 4)]) 0xE08F0211 [(0, 0x11C)] := by decide +kernel

theorem test_pc_as_destination :
    goes ((svc 0 [(14, 0x203)]).runWide 0xE1A0F00E) (nextFetch 4 0x200) ∧
    goes ((saved 0x60000010 (svc 0 [(14, 0x2C), (13, 0x77)])).runWide 0xE1B0F00E)
      (fun t => nextFetch 4 0x2C t && t.cpsr.toWord == 0x60000010 && t.reg 13 == 0) ∧
    goes ((saved 0x3F (given .irq 0 [(14, 0x302)] [])).runWide 0xE25EF002)
      (fun t => nextFetch 4 0x300 t && t.cpsr.toWord == 0x3F && (t.finishStep 4).reg 15 == 0x304) ∧
    stops ((given .user 0 [] []).runWide 0xE1B0F00E) .noSpsr := by decide +kernel

/-! ## Multiplies (95 section 2.6) -/

theorem test_mul_mla :
    regsAfter (svc 0 [(1, 7), (2, 6)]) 0xE0000291 [(0, 42)] ∧
    goes ((svc 0b1001 [(1, 0x10000), (2, 0x10000)]).runWide 0xE0100291)
      (fun t => t.reg 0 == 0 && nz t == 0b01 && t.cpsr.v) ∧
    regsAfter (svc 0 [(1, 7), (2, 6), (3, 100)]) 0xE0203291 [(0, 142)] ∧
    regsAfter (svc 0 [(1, 0xFFFFFFFF), (2, 2), (3, 3)]) 0xE0203291 [(0, 1)] ∧
    stops ((svc 0 []).runWide 0xE0000090) (.unpredictable .multiplyRdIsRm) := by decide +kernel

theorem test_long_multiplies :
    regsAfter (svc 0 [(2, 0xFFFFFFFF), (3, 0xFFFFFFFF)]) 0xE0810392 [(0, 1), (1, 0xFFFFFFFE)] ∧
    regsAfter (svc 0 [(2, 0xFFFFFFFF), (3, 2)]) 0xE0C10392 [(0, 0xFFFFFFFE), (1, 0xFFFFFFFF)] ∧
    regsAfter (svc 0 [(2, 0x80000000), (3, 0x80000000)]) 0xE0C10392 [(0, 0), (1, 0x40000000)] ∧
    regsAfter (svc 0 [(0, 5), (2, 0xFFFFFFFF), (3, 2)]) 0xE0A10392 [(0, 3), (1, 2)] ∧
    regsAfter (svc 0 [(0, 5), (2, 0xFFFFFFFF), (3, 2)]) 0xE0E10392 [(0, 3), (1, 0)] ∧
    goes ((svc 0 [(0, 1), (2, 0xFFFFFFFF), (3, 1)]).runWide 0xE0F10392)
      (fun t => t.reg 0 == 0 && t.reg 1 == 0 && nz t == 0b01) := by decide +kernel

/-! ## Single transfers (95 sections 2.7 and 2.8) -/

/-- The memory of section 2.7. -/
def words7 : List (Nat × Word) := [(0x03000000, 0x11223344), (0x03000004, 0xAABBCCDD)]

/-- A state over that memory. -/
def mem7 (regs : List (Reg × Word)) : State := given .supervisor 0 regs words7

theorem test_ldr :
    regsAfter (mem7 [(1, 0x03000000)]) 0xE5B10004 [(0, 0xAABBCCDD), (1, 0x03000004)] ∧
    regsAfter (mem7 [(1, 0x03000004)]) 0xE4110004 [(0, 0xAABBCCDD), (1, 0x03000000)] ∧
    regsAfter (mem7 [(1, 0x03000000), (2, 1)]) 0xE7910102 [(0, 0xAABBCCDD), (1, 0x03000000)] ∧
    regsAfter (mem7 [(1, 0x03000001)]) 0xE5910000 [(0, 0x44112233)] ∧
    regsAfter (mem7 [(1, 0x03000003)]) 0xE5910000 [(0, 0x22334411)] ∧
    regsAfter (mem7 [(1, 0x03000000)]) 0xE4911004 [(1, 0x11223344)] := by decide +kernel

theorem test_ldrb_ldrt :
    regsAfter (mem7 [(1, 0x03000000)]) 0xE5D10003 [(0, 0x11)] ∧
    regsAfter (mem7 [(1, 0x03000000)]) 0xE4B10004 [(0, 0x11223344), (1, 0x03000004)] := by decide +kernel

theorem test_str_strb :
    wordsAfter (mem7 [(0, 0xFFFFFF99), (1, 0x03000000)]) 0xE5C10003 [(0x03000000, 0x99223344)] ∧
    wordsAfter (mem7 [(0, 0xCAFEBABE), (1, 0x03000002)]) 0xE5810000 [(0x03000000, 0xCAFEBABE)] ∧
    regsAfter (mem7 [(0, 0xCAFEBABE), (1, 0x03000004)]) 0xE5210004 [(1, 0x03000000)] ∧
    wordsAfter (mem7 [(0, 0xCAFEBABE), (1, 0x03000004)]) 0xE5210004
      [(0x03000000, 0xCAFEBABE), (0x03000004, 0xAABBCCDD)] ∧
    wordsAfter (mem7 [(15, 0x108), (1, 0x03000000)]) 0xE581F000 [(0x03000000, 0x10C)] := by decide +kernel

theorem test_ldr_pc :
    goes ((given .supervisor 0 [(1, 0x03000000)] [(0x03000000, 0x203)]).runWide 0xE591F000)
      (fun t => nextFetch 4 0x200 t && !t.cpsr.t) := by decide +kernel

theorem test_data_abort :
    goes ((svc 0 [(0, 3), (1, 0x01000000), (15, 0x208)]).runWide 0xE5910000)
      (fun t => t.reg 0 == 3 && t.reg 1 == 0x01000000 && t.reg 14 == 0x200 && nextFetch 4 0x10 t &&
        t.cpsr.mode == .abort) ∧
    goes ((svc 0 [(0, 3), (1, 0x00FFFFFC)]).runWide 0xE5B10004) (fun t => t.reg 1 == 0x00FFFFFC) ∧
    goes ((svc 0 [(1, 0x01000000)]).runWide 0xE5810000) (· == svc 0 [(1, 0x01000000)]) := by decide +kernel

/-- A state over the memory of section 2.8. -/
def mem8 (regs : List (Reg × Word)) : State := given .supervisor 0 regs [(0x03000000, 0x8001FF80)]

theorem test_ldrh_ldrsh_ldrsb :
    regsAfter (mem8 [(1, 0x03000000)]) 0xE1D100B2 [(0, 0x8001)] ∧
    regsAfter (mem8 [(1, 0x03000000)]) 0xE0D100B2 [(0, 0xFF80), (1, 0x03000002)] ∧
    regsAfter (mem8 [(1, 0x02FFFFEE)]) 0xE1D101B2 [(0, 0xFF80)] ∧
    regsAfter (mem8 [(1, 0x03000002)]) 0xE1D100F0 [(0, 0xFFFF8001)] ∧
    regsAfter (mem8 [(1, 0x03000001)]) 0xE1D100D1 [(0, 1)] ∧
    regsAfter (mem8 [(1, 0x03000003)]) 0xE1D100D0 [(0, 0xFFFFFF80)] := by decide +kernel

theorem test_odd_halfword_and_strh :
    regsAfter (mem8 [(1, 0x03000001)]) 0xE1D100B0 [(0, 0x800000FF)] ∧
    regsAfter (mem8 [(1, 0x03000001)]) 0xE1D100F0 [(0, 0xFFFFFFFF)] ∧
    wordsAfter (mem8 [(0, 0xABCD1234), (1, 0x03000000)]) 0xE1C100B2 [(0x03000000, 0x1234FF80)] ∧
    wordsAfter (mem8 [(0, 0x5555AAAA), (1, 0x03000001)]) 0xE1C100B0 [(0x03000000, 0x8001AAAA)] := by decide +kernel

/-! ## Block transfers and swap (95 sections 2.9 and 2.10) -/

/-- The words at 0x0FF4 and after, for the four address modes. -/
def words9 : List (Nat × Word) := [(0xFF4, 10), (0xFF8, 11), (0xFFC, 12), (0x1000, 13), (0x1004, 14), (0x1008, 15), (0x100C, 16)]

theorem test_ldm_modes :
    regsAfter (given .supervisor 0 [(0, 0x1000)] words9) 0xE8B0000E [(1, 13), (2, 14), (3, 15), (0, 0x100C)] ∧
    regsAfter (given .supervisor 0 [(0, 0x1000)] words9) 0xE9B0000E [(1, 14), (2, 15), (3, 16), (0, 0x100C)] ∧
    regsAfter (given .supervisor 0 [(0, 0x1000)] words9) 0xE830000E [(1, 11), (2, 12), (3, 13), (0, 0xFF4)] ∧
    regsAfter (given .supervisor 0 [(0, 0x1000)] words9) 0xE930000E [(1, 10), (2, 11), (3, 12), (0, 0xFF4)] := by
  decide +kernel

theorem test_stm :
    wordsAfter (svc 0 [(0, 0x03000008), (1, 1), (2, 2)]) 0xE8000006 [(0x03000004, 1), (0x03000008, 2)] ∧
    wordsAfter (svc 0 [(0, 0x03000000), (1, 7)]) 0xE8A00003 [(0x03000000, 0x03000000), (0x03000004, 7)] ∧
    wordsAfter (svc 0 [(0, 7), (1, 0x03000000)]) 0xE8A10003 [(0x03000000, 7), (0x03000004, 0x03000008)] ∧
    wordsAfter (svc 0 [(0, 0x03000000), (15, 0x108)]) 0xE8808000 [(0x03000000, 0x10C)] ∧
    regsAfter (svc 0 [(0, 0x03000002), (1, 1), (2, 2)]) 0xE8A00006 [(0, 0x0300000A)] := by decide +kernel

/-- The machine with a plain RAM node in bank 0, as the vector has it. -/
def plainBank0 (s : State) : State :=
  { s with params := { s.params with banks := s.params.banks.set 0 (wholeBank 0 22 .cells) } }

theorem test_ldm_corners :
    regsAfter (given .supervisor 0 [(0, 0x03000000)] [(0x03000000, 0x11), (0x03000004, 0x22)]) 0xE8B00003
      [(0, 0x11), (1, 0x22)] ∧
    goes ((given .supervisor 0 [(0, 0x03000000)] [(0x03000000, 5), (0x03000004, 0x202)]).runWide 0xE8908002)
      (fun t => t.reg 1 == 5 && nextFetch 4 0x200 t) ∧
    goes ((plainBank0 (given .supervisor 0 [(0, 0x00FFFFF8), (3, 9), (15, 0x108)]
        [(0x00FFFFF8, 0x11), (0x00FFFFFC, 0x22)])).runWide 0xE8B0000E)
      (fun t => t.reg 1 == 0x11 && t.reg 2 == 0x22 && t.reg 3 == 9 && t.reg 0 == 0x00FFFFF8 && t.reg 14 == 0x100 &&
        t.cpsr.mode == .abort) ∧
    stops ((svc 0 []).runWide 0xE8900000) (.unpredictable .emptyList) := by decide +kernel

theorem test_user_bank_and_return :
    goes (({ given .irq 0 [(0, 0x03000100)] [] with
        banks := { State.reset.banks with usr := { r13 := 0x03007F00, r14 := 0x08000044 } } }).runWide 0xE8C06000)
      (fun t => Memory.read32 t.mem 0x03000100 == 0x03007F00 && Memory.read32 t.mem 0x03000104 == 0x08000044) ∧
    goes ((saved 0x10 (given .supervisor 0 [(13, 0x03007F00)]
        [(0x03007F00, 1), (0x03007F04, 2), (0x03007F08, 3), (0x03007F0C, 4), (0x03007F10, 0x08000100)])).runWide
          0xE8FD800F)
      (fun t => t.reg 0 == 1 && t.reg 3 == 4 && t.banks.svc.r13 == 0x03007F14 && t.cpsr.toWord == 0x10 &&
        nextFetch 4 0x08000100 t) := by decide +kernel

theorem test_ldm_user_bank :
    goes ((given .fiq 0 [(0, 0x1000), (8, 5), (13, 6)] words9).runWide 0xE8D02100)
      (fun t => t.banks.usrHi[0] == 13 && t.banks.usr.r13 == 14 && t.reg 8 == 5 && t.reg 13 == 6) := by decide +kernel

theorem test_swp_swpb :
    regsAfter (mem7 [(0, 0xAAAAAAAA), (1, 0x03000000)]) 0xE1010090 [(0, 0x11223344)] ∧
    wordsAfter (mem7 [(0, 0xAAAAAAAA), (1, 0x03000000)]) 0xE1010090 [(0x03000000, 0xAAAAAAAA)] ∧
    regsAfter (mem7 [(1, 0x55), (2, 0x03000001)]) 0xE1020091 [(0, 0x44112233)] ∧
    regsAfter (mem7 [(1, 0x1FF), (2, 0x03000001)]) 0xE1420091 [(0, 0x33)] ∧
    wordsAfter (mem7 [(1, 0x1FF), (2, 0x03000001)]) 0xE1420091 [(0x03000000, 0x1122FF44)] := by decide +kernel

/-! ## Status transfers and branches (95 sections 2.11 and 2.12) -/

theorem test_mrs :
    regsAfter (given .user 0b1000 [] []) 0xE10F0000 [(0, 0x80000010)] ∧
    regsAfter (saved 0x3F (given .irq 0 [] [])) 0xE14F0000 [(0, 0x3F)] ∧
    stops ((given .system 0 [] []).runWide 0xE14F0000) .noSpsr := by decide +kernel

theorem test_msr :
    goes ((given .user 0 [] []).runWide 0xE328F20F) (fun t => t.cpsr.toWord == 0xF0000010) ∧
    goes ((given .user 0b0110 [(0, 0xD3)] []).runWide 0xE121F000) (fun t => t.cpsr.toWord == 0x60000010) ∧
    goes ((svc 0b0110 [(0, 0x1F), (13, 0x77)]).runWide 0xE121F000)
      (fun t => t.cpsr.toWord == 0x6000001F && t.reg 13 == 0 && t.banks.svc.r13 == 0x77) ∧
    goes ((svc 0 [(0, 0xFFFFFFFF)]).runWide 0xE16FF000)
      (fun t => t.spsr.toWord == 0xF00000FF && t.cpsr.toWord == 0x13) ∧
    stops ((svc 0 [(0, 0x33)]).runWide 0xE121F000) .msrChangesWidth ∧
    stops ((svc 0 [(0, 0)]).runWide 0xE121F000) .illegalMode := by decide +kernel

theorem test_b_bl :
    goes ((svc 0 [(15, 0x108)]).runWide 0xEAFFFFFE) (nextFetch 4 0x100) ∧
    goes ((svc 0 [(15, 0x18)]).runWide 0xEAFFFFF6) (nextFetch 4 0xFFFFFFF0) ∧
    goes ((svc 0 [(15, 208)]).runWide 0xEB000019)
      (fun t => t.reg 14 == 204 && nextFetch 4 308 t && (t.finishStep 4).reg 15 == 316) ∧
    goes ((svc 0 [(15, 0x108), (14, 9)]).runWide 0x0BFFFFDE)
      (fun t => t.reg 14 == 9 && nextFetch 4 0x104 t) := by decide +kernel

theorem test_bx :
    goes ((svc 0 [(0, 0x08000101)]).runWide 0xE12FFF10) (fun t => t.cpsr.t && nextFetch 4 0x08000100 t) ∧
    goes ((svc 0 [(0, 0x08000102)]).runWide 0xE12FFF10) (fun t => !t.cpsr.t && nextFetch 4 0x08000100 t) := by
  decide +kernel

/-! ## The narrow set (95 sections 2.13 and 2.14) -/

theorem test_narrow_shifts :
    loAluAfter (svc 0 [(1, 0x40000001)]) 0x0088 0x00000004 0b0010 ∧
    loAluAfter (svc 0b0010 [(1, 0x80000000)]) 0x0008 0x80000000 0b1010 ∧
    loAluAfter (svc 0 [(1, 0x80000000)]) 0x0808 0 0b0110 ∧
    loAluAfter (svc 0b0010 [(1, 0x7FFFFFFF)]) 0x1008 0 0b0100 ∧
    loAluAfter (svc 0 [(0, 1), (1, 33)]) 0x4088 0 0b0100 ∧
    loAluAfter (svc 0 [(0, 0x80000000), (1, 31)]) 0x40C8 1 0 ∧
    loAluAfter (svc 0 [(0, 0x80000000), (1, 40)]) 0x4108 0xFFFFFFFF 0b1010 ∧
    loAluAfter (svc 0b0010 [(0, 0x80000001), (1, 0x104)]) 0x41C8 0x18000000 0 := by decide +kernel

theorem test_narrow_add_sub :
    loAluAfter (svc 0 [(1, 0x7FFFFFFF), (2, 1)]) 0x1888 0x80000000 0b1001 ∧
    loAluAfter (svc 0 [(1, 0x80000000), (2, 1)]) 0x1A88 0x7FFFFFFF 0b0011 ∧
    loAluAfter (svc 0 [(1, 0xFFFFFFFF)]) 0x1DC8 6 0b0010 ∧
    loAluAfter (svc 0 [(1, 0)]) 0x1E48 0xFFFFFFFF 0b1000 ∧
    loRegsAfter (svc 0 [(2, 0xFFFFFFFF)]) 0x3201 [(2, 0)] ∧
    loRegsAfter (svc 0 [(3, 0x80000000)]) 0x3B01 [(3, 0x7FFFFFFF)] := by decide +kernel

theorem test_narrow_mov_cmp :
    loAluAfter (svc 0b0011 []) 0x20FF 255 0b0011 ∧
    loAluAfter (svc 0 []) 0x28FF 0 0b1000 ∧
    loAluAfter (svc 0 [(0, 1), (1, 2)]) 0x4288 1 0b1000 ∧
    loAluAfter (svc 0 [(0, 1), (1, 0xFFFFFFFF)]) 0x42C8 1 0b0110 := by decide +kernel

theorem test_narrow_logic :
    loAluAfter (svc 0 [(0, 0xF0), (1, 0x3C)]) 0x4008 0x30 0 ∧
    loAluAfter (svc 0 [(0, 0xF0), (1, 0x3C)]) 0x4048 0xCC 0 ∧
    loAluAfter (svc 0 [(0, 0xF0), (1, 0x0F)]) 0x4208 0xF0 0b0100 ∧
    loAluAfter (svc 0 [(0, 0xF0), (1, 0x0F)]) 0x4308 0xFF 0 ∧
    loAluAfter (svc 0 [(0, 0xFF), (1, 0x0F)]) 0x4388 0xF0 0 ∧
    loAluAfter (svc 0 [(1, 0)]) 0x43C8 0xFFFFFFFF 0b1000 := by decide +kernel

theorem test_narrow_adc_sbc_neg_mul :
    loAluAfter (svc 0b0010 [(0, 0x7FFFFFFF)]) 0x4148 0x80000000 0b1001 ∧
    loAluAfter (svc 0 []) 0x4188 0xFFFFFFFF 0b1000 ∧
    loAluAfter (svc 0 [(1, 0x80000000)]) 0x4248 0x80000000 0b1001 ∧
    loAluAfter (svc 0 [(1, 0)]) 0x4248 0 0b0110 ∧
    goes ((narrow (svc 0b0001 [(0, 0x10000), (1, 0x10000)])).runNarrow 0x4348)
      (fun t => t.reg 0 == 0 && nz t == 0b01 && t.cpsr.v) := by decide +kernel

theorem test_narrow_high_registers :
    loAluAfter (svc 0b1001 [(0, 1), (8, 2)]) 0x4440 3 0b1001 ∧
    loAluAfter (svc 0 [(0, 2), (8, 2)]) 0x4540 2 0b0110 ∧
    loRegsAfter (svc 0 [(15, 0x08000104)]) 0x4678 [(0, 0x08000104)] ∧
    goes ((narrow (svc 0 [(14, 0x08000201)])).runNarrow 0x46F7) (fun t => t.cpsr.t && nextFetch 2 0x08000200 t) ∧
    goes ((narrow (svc 0 [(15, 0x08000104)])).runNarrow 0x4778) (fun t => !t.cpsr.t && nextFetch 2 0x08000104 t) := by
  decide +kernel

theorem test_narrow_addresses :
    loRegsAfter (svc 0 [(15, 0x08000106)]) 0xA001 [(0, 0x08000108)] ∧
    loRegsAfter (svc 0 [(13, 0x03007F00)]) 0xA802 [(0, 0x03007F08)] ∧
    loRegsAfter (svc 0 [(13, 0x03007F00)]) 0xB002 [(13, 0x03007F08)] ∧
    loRegsAfter (svc 0 [(13, 0x03007F08)]) 0xB082 [(13, 0x03007F00)] := by decide +kernel

/-- A state over the memory of section 2.14. -/
def mem14 (regs : List (Reg × Word)) : State :=
  given .supervisor 0 regs [(0x03000000, 0x11223344), (0x03000004, 0x8001FF80)]

theorem test_narrow_loads_register :
    loRegsAfter (mem14 [(1, 0x03000000), (2, 4)]) 0x5888 [(0, 0x8001FF80)] ∧
    loRegsAfter (mem14 [(1, 0x03000000), (2, 1)]) 0x5C88 [(0, 0x33)] ∧
    loRegsAfter (mem14 [(1, 0x03000000), (2, 4)]) 0x5688 [(0, 0xFFFFFF80)] ∧
    loRegsAfter (mem14 [(1, 0x03000000), (2, 2)]) 0x5A88 [(0, 0x1122)] ∧
    loRegsAfter (mem14 [(1, 0x03000000), (2, 6)]) 0x5E88 [(0, 0xFFFF8001)] := by decide +kernel

theorem test_narrow_loads_immediate :
    loRegsAfter (mem14 [(1, 0x02FFFFFD)]) 0x6848 [(0, 0x44112233)] ∧
    loRegsAfter (mem14 [(1, 0x03000000)]) 0x7848 [(0, 0x33)] ∧
    loRegsAfter (mem14 [(1, 0x03000000)]) 0x8848 [(0, 0x1122)] ∧
    loRegsAfter (given .supervisor 0 [(15, 0x08000106)] [(0x08000108, 0xCAFEBABE)]) 0x4801 [(0, 0xCAFEBABE)] ∧
    loRegsAfter (given .supervisor 0 [(13, 0x03007F00)] [(0x03007F04, 9)]) 0x9801 [(0, 9)] := by decide +kernel

theorem test_narrow_stores_register :
    loWordsAfter (mem14 [(0, 0xDEADBEEF), (1, 0x03000000), (2, 8)]) 0x5088 [(0x03000008, 0xDEADBEEF)] ∧
    loWordsAfter (mem14 [(0, 0x1FF), (1, 0x03000000), (2, 1)]) 0x5488 [(0x03000000, 0x1122FF44)] ∧
    loWordsAfter (mem14 [(0, 0xABCD1234), (1, 0x03000000), (2, 2)]) 0x5288 [(0x03000000, 0x12343344)] := by
  decide +kernel

theorem test_narrow_stores_immediate :
    loWordsAfter (mem14 [(0, 7), (1, 0x03000000)]) 0x6048 [(0x03000004, 7)] ∧
    loWordsAfter (mem14 [(0, 0xAB), (1, 0x03000000)]) 0x7048 [(0x03000000, 0x1122AB44)] ∧
    loWordsAfter (mem14 [(0, 0x1234), (1, 0x03000000)]) 0x8048 [(0x03000000, 0x12343344)] ∧
    loWordsAfter (mem14 [(0, 9), (13, 0x03007F00)]) 0x9001 [(0x03007F04, 9)] := by decide +kernel

theorem test_push_pop :
    loWordsAfter (svc 0 [(13, 0x03007F08), (4, 4), (14, 0x08000105)]) 0xB510 [(0x03007F00, 4), (0x03007F04, 0x08000105)] ∧
    loRegsAfter (svc 0 [(13, 0x03007F08)]) 0xB510 [(13, 0x03007F00)] ∧
    goes ((narrow (given .supervisor 0 [(13, 0x03007F00)] [(0x03007F00, 4), (0x03007F04, 0x08000105)])).runNarrow 0xBD10)
      (fun t => t.reg 4 == 4 && t.reg 13 == 0x03007F08 && t.cpsr.t && nextFetch 2 0x08000104 t) := by decide +kernel

theorem test_stmia_ldmia :
    loWordsAfter (svc 0 [(0, 0x03000000), (1, 1), (2, 2)]) 0xC006 [(0x03000000, 1), (0x03000004, 2)] ∧
    loRegsAfter (mem14 [(0, 0x03000000)]) 0xC806 [(1, 0x11223344), (2, 0x8001FF80), (0, 0x03000008)] ∧
    loRegsAfter (mem14 [(0, 0x03000000)]) 0xC803 [(0, 0x11223344), (1, 0x8001FF80)] := by decide +kernel

theorem test_narrow_conditional_branches :
    goes ((narrow (svc 0b0100 [(15, 0x08000104)])).runNarrow 0xD002) (nextFetch 2 0x08000108) ∧
    goes ((narrow (svc 0 [(15, 0x08000104)])).runNarrow 0xD002) (nextFetch 2 0x08000102) ∧
    goes ((narrow (svc 0 [(15, 0x08000104)])).runNarrow 0xD1FE) (nextFetch 2 0x08000100) ∧
    goes ((narrow (svc 0b1000 [(15, 0x08000104)])).runNarrow 0xDBFC) (nextFetch 2 0x080000FC) := by decide +kernel

theorem test_narrow_b_bl :
    goes ((narrow (svc 0 [(15, 0x08000104)])).runNarrow 0xE7FE) (nextFetch 2 0x08000100) ∧
    loRegsAfter (svc 0 [(15, 0x08001004)]) 0xF7FF [(14, 0x08000004)] ∧
    goes ((narrow (svc 0 [(15, 0x08000106), (14, 0x08000104)])).runNarrow 0xF87E)
      (fun t => nextFetch 2 0x08000200 t && t.reg 14 == 0x08000105) := by decide +kernel

/-! ## Undefined words and exceptions (95 sections 2.15 and 2.16) -/

/-- The words that end in the Undefined-instruction exception. -/
def undefinedWords : List Word :=
  [0xE7F000F0, 0xE6000010, 0xEE000000, 0xED900000, 0xED800000, 0xEE000010, 0xEE100010, 0xE12FFF30, 0xE16F0F10,
   0xE1000190, 0xE19101B2]

theorem test_undefined_words :
    (undefinedWords.all fun w => goes ((svc 0 [(15, 0x108)]).runWide w)
      fun t => t.reg 14 == 0x104 && t.cpsr.mode == .undefined && nextFetch 4 0x04 t) ∧
    (([0xB100, 0xBE00, 0xE800, 0x4780, 0xDE00] : List Half).all fun h =>
      goes ((narrow (svc 0 [(15, 0x08000104)])).runNarrow h)
        fun t => t.reg 14 == 0x08000102 && t.cpsr.mode == .undefined && nextFetch 2 0x04 t) := by decide +kernel

theorem test_swi :
    goes ((given .user 0b0110 [(15, 0x08000108)] []).runWide 0xEF000005)
      (fun t => t.reg 14 == 0x08000104 && t.spsr.toWord == 0x60000010 && t.cpsr.toWord == 0x60000093 &&
        nextFetch 4 0x08 t) ∧
    goes ((narrow (given .user 0 [(15, 0x08000104)] [])).runNarrow 0xDF05)
      (fun t => t.reg 14 == 0x08000102 && t.spsr.toWord == 0x30 && t.cpsr.toWord == 0x93 && nextFetch 2 0x08 t) := by
  decide +kernel

theorem test_prefetch_abort :
    goes ((given .system 0 [(15, 0x01000008)] []).cpuStep)
      (fun t => t.reg 14 == 0x01000004 && t.spsr.toWord == 0x1F && t.cpsr.toWord == 0x97 && t.reg 15 == 0x14) := by
  decide +kernel

/-- A state with these events pending: Reset, FIQ, and an enabled interrupt. -/
def pending (rst fiq irq : Bool) (s : State) : State :=
  { s with dev := { s.dev with rstPending := rst, fiqPending := fiq, enabled := 1, pending := 1, master := irq } }

theorem test_fiq_and_irq :
    goes ((pending false false true (given .system 0 [(15, 0x308)] [])).cpuStep)
      (fun t => t.reg 14 == 0x304 && t.spsr.toWord == 0x1F && t.cpsr.toWord == 0x92 && t.reg 15 == 0x20) ∧
    goes ((pending false true true (given .system 0 [(8, 5), (15, 0x308)] [])).cpuStep)
      (fun t => t.reg 14 == 0x304 && t.spsr.toWord == 0x1F && t.cpsr.toWord == 0xD1 && t.reg 15 == 0x24 &&
        t.reg 8 == 0 && t.banks.usrHi[0] == 5 && t.dev.fiqPending) := by decide +kernel

theorem test_reset_priority :
    goes ((pending true true true (given .system 0b0110 [(15, 0x308)] [])).cpuStep)
      (fun t => t.cpsr.toWord == 0x600000D3 && t.reg 15 == 8 && !t.dev.rstPending && t.dev.fiqPending) := by
  decide +kernel

theorem test_mode_round_trip :
    (let s := { svc 0 [(8, 0x88), (13, 0x03007FE0), (14, 0x08000123)] with
        spsr := Saved.ofWord 0x6000001F
        banks := { State.reset.banks with
          fiqHi := #v[0xF8, 0, 0, 0, 0], fiq := { r13 := 0x03007F00, r14 := 0xF14 }, spsrFiq := Saved.ofWord 0x10 } }
     let t := s.loadStatus { s.cpsr with mode := .fiq }
     let u := t.loadStatus s.cpsr
     t.reg 8 == 0xF8 && t.reg 13 == 0x03007F00 && t.spsr.toWord == 0x10 && t.banks.usrHi[0] == 0x88 &&
       u.reg 8 == 0x88 && u.reg 14 == 0x08000123 && u.spsr.toWord == 0x6000001F) = true := by decide +kernel

/-! ## Devices (95 sections 2.17 to 2.21) -/

/-- The machine after reset with IE, IF, IME and a power state. -/
def irqs (ie if' : BitVec 14) (ime : Bool) (power : Power) : State :=
  { State.reset with dev := { State.reset.dev with enabled := ie, pending := if', master := ime, power := power } }

/-- After the store, where the bus takes it. -/
def stored (o : Option State) (p : State → Bool) : Bool := o.any p

theorem test_wake :
    ((Devices.raise defaultParams 0 (irqs 1 0 true .halt).dev).power == .run &&
      stored ((irqs 0 1 true .halt).store16 0x04000200 1) (fun t => t.dev.power == .run) &&
      (Devices.raise defaultParams 0 (irqs 1 0 false .halt).dev).power == .halt &&
      stored ((irqs 1 1 false .halt).store16 0x04000208 1) (fun t => t.dev.power == .run) &&
      (Devices.raise defaultParams 3 (irqs 9 0 true .stop).dev).power == .stop &&
      stored ((irqs 9 0x1008 true .stop).store16 0x04000200 0x1009) (fun t => t.dev.power == .run)) = true := by
  decide +kernel

theorem test_pending_and_halt :
    (stored ((irqs 0 9 false .run).store16 0x04000202 1) (fun t => t.dev.pending == 8) &&
      stored ((irqs 0 0x108 false .run).store8 0x04000203 0xFF) (fun t => t.dev.pending == 8) &&
      stored ((irqs 1 1 false .run).store8 0x04000301 0) (fun t => t.dev.power == .run) &&
      stored ((irqs 1 2 false .run).store8 0x04000301 0) (fun t => t.dev.power == .halt) &&
      stored ((irqs 1 2 false .run).store8 0x04000301 0x80) (fun t => t.dev.power == .stop) &&
      stored ((irqs 0 0 false .run).store16 0x04000300 0x8001)
        (fun t => t.dev.power == .stop && t.dev.postflg == 1)) = true := by decide +kernel

theorem test_register_lanes :
    ((irqs 0x2BCD 0 false .run).load8 0x04000201 = some 0x2B) ∧
    ((irqs 1 8 false .run).load32 0x04000200 = some 0x00080001) ∧
    (stored ((irqs 0xFF 0 false .run).store8 0x04000201 0x12) (fun t => t.dev.enabled == 0x12FF) = true) ∧
    (stored ((irqs 0 8 false .run).store32 0x04000200 0x00080009)
      (fun t => t.dev.enabled == 9 && t.dev.pending == 0) = true) ∧
    ((irqs 0 0 false .run).load16 0x04000206 = some 0) ∧ ((irqs 0 0 false .run).load16 0x04000400 = none) ∧
    (stored ((irqs 0 0 false .run).store16 0x04000204 0x4317) (fun t => t.load16 0x04000204 == some 0x4317) = true) := by
  decide +kernel

/-- A machine with words in memory and halfwords stored to registers, in order. -/
def configured (words : List (Nat × Word)) (stores : List (Word × Half)) : State :=
  stores.foldl (fun s x => (s.store16 x.1 x.2).getD s) (given .supervisor 0 [] words)

theorem test_dma_words :
    (let s := configured [(0x02000000, 0x12345678), (0x02000004, 0xFFFFFFFF)]
        [(0x040000B2, 0x0200), (0x040000B4, 0x0100), (0x040000B6, 0x0200), (0x040000B8, 2), (0x040000BA, 0xC400)]
     let t := s.dmaStep 0
     s.dev.activeChannel == some 0 && Memory.read32 t.mem 0x02000100 == 0x12345678 &&
       Memory.read32 t.mem 0x02000104 == 0xFFFFFFFF && t.dev.dma[0].src == 0x02000008 &&
       t.dev.dma[0].dst == 0x02000108 && t.dev.activeChannel == none && t.dev.pending == 0x100 &&
       t.load16 0x040000BA == some 0x4400) = true := by decide +kernel

theorem test_dma_halfwords_fixed :
    (let s := configured [(0x02000000, 0xCCCC0000), (0x02000004, 0xAAAABBBB)]
        [(0x040000BC, 6), (0x040000BE, 0x0200), (0x040000C0, 0x0200), (0x040000C2, 0x0200), (0x040000C4, 3),
         (0x040000C6, 0x80C0)]
     let t := s.dmaStep 1
     Memory.read16 t.mem 0x02000200 == 0xCCCC && t.dev.dma[1].src == 0x02000000 && t.dev.dma[1].dst == 0x02000200 &&
       t.load16 0x040000C6 == some 0x00C0 && t.dev.pending == 0) = true := by decide +kernel

theorem test_dma_repeat_reload :
    (let s := configured [(0x02000000, 7), (0x02000004, 8)]
        [(0x040000B2, 0x0200), (0x040000B4, 0x0100), (0x040000B6, 0x0200), (0x040000B8, 1), (0x040000BA, 0x9660)]
     let t := State.dmaStep { s with dev := s.dev.signalVblank } 0
     s.dev.activeChannel == none && s.dev.signalVblank.activeChannel == some 0 &&
       Memory.read32 t.mem 0x02000100 == 7 && t.dev.dma[0].dst == 0x02000100 && t.dev.dma[0].src == 0x02000004 &&
       t.dev.dma[0].remaining == 1 && t.load16 0x040000BA == some 0x9660) = true := by decide +kernel

theorem test_dma_counts_and_special :
    (let c := { DmaChannel.reset with cnt := 0x4001 }
     c.count defaultParams 0 == 1 && DmaChannel.reset.count defaultParams 3 == 0x10000 &&
       (let s := configured [] [(0x040000DE, 0xB400)]
        (Devices.signalHblank defaultParams 160 s.dev).activeChannel == none &&
          (Devices.signalHblank defaultParams 159 s.dev).activeChannel == some 3)) = true := by decide +kernel

theorem test_timer_cascade :
    (let s := configured [] [(0x04000102, 0x0080), (0x04000106, 0x0084)]
     let a := Devices.timerStep defaultParams 65535 s.dev
     let b := Devices.timerStep defaultParams 1 a
     s.dev.timers[0].overflowAt == some 65536 && s.dev.timers[1].overflowAt == none &&
       liveCounter defaultParams a.now 0 a.timers[0] == 0xFFFF && b.timers[0].counter == 0 &&
       b.timers[0].overflowAt == some 131072 && b.notices == [0] && b.timers[1].counter == 1) = true := by
  decide +kernel

theorem test_timer_prescaler_and_restart :
    (let s := { State.reset with dev := { State.reset.dev with now := 100 } }
     let t := [((0x04000100 : Word), (0xFFFE : Half)), (0x04000102, 0x00C1)].foldl (fun s x => (s.store16 x.1 x.2).getD s) s
     let at' := fun n => liveCounter defaultParams n 0 t.dev.timers[0]
     let u := Devices.timerStep defaultParams 128 t.dev
     t.dev.timers[0].overflowAt == some 228 && at' 163 == 0xFFFE && at' 164 == 0xFFFF && at' 227 == 0xFFFF &&
       u.timers[0].overflowAt == some 356 && u.pending == 8 &&
       (let m := { t with dev := { t.dev with now := 164 } }
        stored (m.store16 0x04000102 0x0080) fun t =>
          t.dev.timers[0].counter == 0xFFFF && t.dev.timers[0].overflowAt == some 165)) = true := by decide +kernel

theorem test_timer_repeated_overflow :
    (let s := configured [] [(0x04000100, 0xFFFF), (0x04000102, 0x0080), (0x04000106, 0x0084)]
     let t := Devices.timerStep defaultParams 5 s.dev
     t.timers[0].overflowAt == some 6 && t.timers[1].counter == 5 && t.notices == [0, 0, 0, 0, 0]) = true := by
  decide +kernel

theorem test_bus_bytes :
    (stored ((svc 0 []).store32 0x03000000 0x11223344) fun t =>
      t.load8 0x03000000 == some 0x44 && t.load8 0x03000003 == some 0x11 && t.load16 0x03000002 == some 0x1122) = true ∧
    (svc 0 []).load32 0x01000000 = none ∧ (svc 0 []).store32 0x01000000 5 = some (svc 0 []) ∧
    (svc 0 []).load8 0x10000000 = none := by decide +kernel

/-! ## A whole step -/

theorem test_step_runs_placed_instructions :
    goes (step (State.reset.withFetchWord 32 0xE3A0100A)) (fun t => t.reg 1 == 10 && t.reg 15 == 12) ∧
    goes (step (State.reset.withFetchWord 16 0x2003)) (fun t => t.reg 0 == 3 && t.cpsr.t && t.reg 15 == 10) ∧
    goes (step (State.reset.withFetchWord 32 0xE12FFF10)) (fun t => t.reg 15 == 8) := by decide +kernel

/-! ## Helpers of the witnesses -/

/-- A load at the address reads storage. -/
def readable (p : Params) (a : Word) : Bool :=
  match target p a with
  | .node _ _ r => r.load == .cells
  | .absent => false
  | .block _ _ => false

/-- A load and a store at the address reach storage. -/
def inMemory (p : Params) (a : Word) : Bool :=
  match target p a with
  | .node _ _ r => r.load == .cells && r.store == .cells
  | .absent => false
  | .block _ _ => false

theorem readable_of {p : Params} {a : Word} (h : readable p a = true) : Readable p a := by
  unfold readable at h
  split at h
  · next ht => exact ⟨_, _, _, ht, by simpa using h⟩
  · cases h
  · cases h

theorem inMemory_of {p : Params} {a : Word} (h : inMemory p a = true) : InMemory p a := by
  unfold inMemory at h
  split at h
  · next ht => exact ⟨_, _, _, ht, by simpa using h⟩
  · cases h
  · cases h

theorem inMemory_readable {p : Params} {a : Word} (h : inMemory p a = true) : readable p a = true := by
  unfold inMemory at h
  unfold readable
  split at h
  · simp only [Bool.and_eq_true] at h; exact h.1
  · cases h
  · cases h

/-- A region of one word of bank 4 that stores. -/
def ioWord (word : Nat) : Region :=
  { first := word, last := word, base := 0x1000000 + word, bits := 0, load := .cells, store := .cells }

/-- A region of the word at 0x04000400 that reads 0 and fails stores. -/
def failingStore : Region := { first := 0x100, last := 0x100, base := 0, bits := 0, load := .zero, store := .fails }

/-- The machine after reset with an external node behind bank 4. -/
def external (n : Node) : State := { State.reset with params := { defaultParams with ioExternal := n } }

/-! ## The nodes of the bus (20_memory R73, R74, R84 to R86) -/

/-- The work RAM of bank 3 is mirrored every 32 KiB; the ROM of bank 8 ignores stores and is mirrored in bank 10. -/
theorem test_nodes_mirror_and_ignore :
    ((State.reset.store32 0x03008004 0x11223344).bind fun t => t.load32 0x03000004) = some 0x11223344 ∧
    ((State.reset.store32 0x08000000 7).bind fun t => t.load32 0x08000000) = some 0 ∧
    cellOf defaultParams 0x0A000010 = cellOf defaultParams 0x08000010 := by decide +kernel

/-- An external block behind bank 4 that keeps a stored register, and only at its own offset. -/
theorem test_external_block_keeps_a_register :
    (((external [ioWord 0]).store16 0x04000002 0x1234).bind fun t => t.load32 0x04000000) = some 0x12340000 ∧
    (external [ioWord 0]).load16 0x04000004 = none ∧
    ((external [failingStore]).store32 0x04000400 1).isNone = true := by decide +kernel

/-- A word at 0x04000300 goes whole to the Interrupt/Power Controller; the halfword at 0x04000302 is the external node's. -/
theorem test_word_at_postflg :
    (external [ioWord 0xC0]).load32 0x04000300 = none ∧
    ((external [ioWord 0xC0]).store32 0x04000300 0x55660001).map (fun t => (t.dev.postflg, t.dev.power, t.mem)) =
      some (0x01, .halt, []) ∧
    (((external [ioWord 0xC0]).store16 0x04000302 0x77).bind fun t => t.load16 0x04000302) = some 0x77 := by
  decide +kernel

/-! ## Witnesses: for each statement with hypotheses, a state and operands that meet them -/

/-- One word for each of the four holes, the condition passing. -/
theorem witness_ReservedWideWords :
    (([0xE12FFF30, 0xE1000190, 0xE00000D0, 0xE19101B2] : List Word).all fun w =>
      reservedWide w && Cond.holds (condAt 28 w) State.reset.cpsr) = true := by decide +kernel

/-- One halfword for each of the holes. -/
theorem witness_ReservedNarrowHalfwords :
    (([0xB100, 0xB200, 0xB300, 0xB600, 0xB800, 0xBA00, 0xBE00, 0xDE00, 0xE800, 0x4780] : List Half).all
      reservedNarrow) = true := by decide +kernel

/-- A wide and a narrow instruction placed at the first fetch after reset. -/
theorem witness_StepRunsDecodedInstruction :
    (let s := State.reset.withFetchWord 32 0xE3A0100A
     s.dev.activeChannel = none ∧ s.dev.power = .run ∧ s.prepared.asyncException = none ∧
       readable s.params s.prepared.currentInstruction = true ∧
       decode s.cpsr.t ((List.range 4).map fun k => Memory.read s.mem (cellOf s.params s.prepared.currentInstruction + k)) =
         .ok (.movImm .al false 0 1 0 10, [])) ∧
    (let s := State.reset.withFetchWord 16 0x2003
     s.dev.activeChannel = none ∧ s.dev.power = .run ∧ s.prepared.asyncException = none ∧
       readable s.params s.prepared.currentInstruction = true ∧
       decode s.cpsr.t ((List.range 2).map fun k => Memory.read s.mem (cellOf s.params s.prepared.currentInstruction + k)) =
         .ok (.tMovImm8 0 3, [])) := by decide +kernel

theorem witness_PcAfterStep : State.reset.redirected = false ∧ (State.reset.branchTo 0x103).redirected = true ∧
    (narrow (State.reset.branchTo 0x103)).redirected = true := by decide +kernel

theorem witness_SkippedChangesNothing :
    condOf (.addImm .eq false 0 0 0 1) = some .eq ∧ Cond.holds .eq (svc 0 []).cpsr = false ∧
      Cond.holds (condAt 28 (0x07F000F0 : Word)) (svc 0 []).cpsr = false := by decide +kernel

theorem witness_ConditionTable :
    (let p := (svc 0b1010 []).cpsr
     let q := (given .user 0b1010 [] []).cpsr
     p.n = q.n ∧ p.z = q.z ∧ p.c = q.c ∧ p.v = q.v ∧ p ≠ q) := by decide +kernel

/-- Reset; FIQ without Reset; IRQ without FIQ; a failing fetch without any, in both widths. -/
theorem witness_StepTakesExceptions :
    (pending true true true (svc 0 [])).dev.rstPending = true ∧
    (let s := pending false true true (svc 0 [])
     s.dev.rstPending = false ∧ s.dev.fiqPending = true ∧ s.cpsr.f = false) ∧
    (let s := pending false false true (svc 0 [])
     s.dev.rstPending = false ∧ ¬(s.dev.fiqPending = true ∧ s.cpsr.f = false) ∧
       s.dev.enabled &&& s.dev.pending ≠ 0 ∧ s.dev.master = true ∧ s.cpsr.i = false) ∧
    (let s := svc 0 [(15, 0x01000008)]
     s.dev.rstPending = false ∧ ¬(s.dev.fiqPending = true ∧ s.cpsr.f = false) ∧
       ¬(s.dev.enabled &&& s.dev.pending ≠ 0 ∧ s.dev.master = true ∧ s.cpsr.i = false) ∧
       s.load32 s.prepared.currentInstruction = none ∧
       (narrow s).load16 (narrow s).prepared.currentInstruction = none) := by decide +kernel

/-- Channel 2 active below channel 3; no channel active in Run and in Halt. -/
theorem witness_AgentOfTick :
    (let c := { DmaChannel.reset with active := true }
     let d := { State.reset.dev with dma := #v[DmaChannel.reset, DmaChannel.reset, c, c] }
     (d.dma[(2 : Fin 4)]).active = true ∧ ∀ j : Fin 4, j < 2 → (d.dma[j]).active = false) ∧
    (∀ ch : Fin 4, (State.reset.dev.dma[ch]).active = false) ∧ State.reset.dev.power = .run ∧
    (∀ ch : Fin 4, ((irqs 0 0 false .halt).dev.dma[ch]).active = false) ∧ (irqs 0 0 false .halt).dev.power ≠ .run := by
  decide +kernel

/-- Entries that change the bank, from FIQ, into FIQ and elsewhere, and one that does not; both ends of r0 to r7. -/
theorem witness_ExceptionEntry :
    (given .fiq 0 [] []).cpsr.mode.bank = .fiq ∧ Bank.fiq ≠ (Exc.irq).mode.bank ∧
    (given .user 0 [] []).cpsr.mode.bank ≠ (Exc.fiq).mode.bank ∧
    (given .irq 0 [] []).cpsr.mode.bank ≠ (Exc.swi).mode.bank ∧ (svc 0 []).cpsr.mode.bank = (Exc.swi).mode.bank ∧
    (0 : Reg).toNat < 8 ∧ (7 : Reg).toNat < 8 := by decide +kernel

theorem witness_LinkValues :
    (0x100 : Word) = (svc 0 [(15, 0x108)]).reg 15 - (if (svc 0 [(15, 0x108)]).cpsr.t then 4 else 8) ∧
    (4 : Word) = (if (svc 0 [(15, 0x108)]).cpsr.t then 2 else 4) := by decide +kernel

/-- A handler of another bank, from a mode with an SPSR, and of the same bank. -/
theorem witness_EntryThenReturn :
    Exc.irq ≠ .reset ∧ (svc 0 []).cpsr.mode.bank ≠ (Exc.irq).mode.bank ∧ (svc 0 []).cpsr.mode.hasSpsr = true ∧
    Exc.swi ≠ .reset ∧ (svc 0 []).cpsr.mode.bank = (Exc.swi).mode.bank ∧ (13 : Reg) ≠ 15 ∧ (13 : Reg) ≠ 14 := by
  decide +kernel

theorem witness_LoadStatusRoundTrip : (svc 0 []).cpsr.mode.hasSpsr = true := by decide +kernel

/-- Between the modes of one bank; out of FIQ, into FIQ and elsewhere; the incoming bank has an SPSR. -/
theorem witness_LoadStatusMovesBanks :
    (given .user 0 [] []).cpsr.mode.bank = (given .system 0 [] []).cpsr.mode.bank ∧
    (given .fiq 0 [] []).cpsr.mode.bank ≠ (svc 0 []).cpsr.mode.bank ∧
    (given .fiq 0 [] []).cpsr.mode.bank = .fiq ∧ (given .fiq 0 [] []).cpsr.mode.bank ≠ .usr ∧ Bank.irq ≠ Bank.fiq ∧
    (svc 0 []).cpsr.mode.bank ≠ .fiq ∧ (given .irq 0 [] []).cpsr.mode.bank ≠ .fiq ∧
    (svc 0 []).banks.spsr (svc 0 []).cpsr.mode.bank = some Saved.zero := by decide +kernel

/-- ADDS with a register, a compare whose ignored Rd field is 15, and r15 as an operand. -/
theorem witness_DataProcessingResult :
    Cond.holds .al (svc 0 []).cpsr = true ∧ (dpInstr .add .al true 1 14 (.regRs 14 .lsl 15)).wf = true ∧
    AluOp.writes .add = true ∧ (14 : Reg) ≠ 15 ∧ (dpInstr .cmp .al true 15 15 (.imm 15 0xFF)).wf = true ∧
    AluOp.writes .cmp = false ∧ (dpInstr .mov .al false 0 0 (.regIs 31 .ror 15)).wf = true := by decide +kernel

/-- A mode with a legal SPSR, one with an illegal SPSR, and one without. -/
theorem witness_DataProcessingToPc :
    AluOp.writes .mov = true ∧ (dpInstr .mov .al false 0 15 (.regIs 0 .lsl 14)).wf = true ∧
    (saved 0x10 (svc 0 [])).spsr.toStatus = some (given .user 0 [] []).cpsr ∧
    (svc 0 []).cpsr.mode.hasSpsr = true ∧ (saved 0 (svc 0 [])).spsr.toStatus = none ∧
    (given .user 0 [] []).cpsr.mode.hasSpsr = false := by decide +kernel

theorem witness_DataProcessingFrame :
    goes (exec (dpInstr .sub .al true 1 14 (.imm 0 1)) (svc 0 [])) (fun _ => true) = true ∧ (14 : Reg) ≠ 15 ∧
    goes (exec (dpInstr .sub .al false 1 15 (.imm 0 1)) (svc 0 [])) (fun _ => true) = true := by decide +kernel

/-- Amounts at the ends of each clause's range. -/
theorem witness_ImmediateShifts : (1 : BitVec 5) ≠ 0 ∧ (31 : BitVec 5) ≠ 0 := by decide +kernel

theorem witness_RegisterShifts :
    1 ≤ (1 : BitVec 8).toNat ∧ (31 : BitVec 8).toNat ≤ 31 ∧ (32 : BitVec 8).toNat = 32 ∧ 33 ≤ (33 : BitVec 8).toNat ∧
    32 ≤ (255 : BitVec 8).toNat ∧ ((64 : BitVec 8) ≠ 0 ∧ (64 : BitVec 8).toNat % 32 = 0) ∧
    (33 : BitVec 8).toNat % 32 ≠ 0 ∧ Cond.holds .al (svc 0 []).cpsr = true := by decide +kernel

theorem witness_MultiplyResult :
    Cond.holds .al (svc 0 []).cpsr = true ∧ (Instr.mul .al true 14 15 14 0).wf = true ∧
    (Instr.mla .al false 14 14 14 0).wf = true := by decide +kernel

theorem witness_LongMultiplyResult :
    Cond.holds .al (svc 0 []).cpsr = true ∧ (longInstr .smlal .al true 14 13 14 12).wf = true ∧
    (longInstr .umull .al false 1 0 3 2).wf = true := by decide +kernel

/-- Bytes of two banks, the first and the last word of a bank among them, are in memory. -/
theorem witness_memory (a : Word) (h : a = 0x02000000 ∨ a = 0x02FFFFFC ∨ a = 0x03000000 ∨ a = 0x03000004 ∨ a = 0x03000001) :
    InMemory State.reset.params a ∧ Readable State.reset.params a := by
  have ha : inMemory State.reset.params a = true := by rcases h with rfl | rfl | rfl | rfl | rfl <;> decide +kernel
  exact ⟨inMemory_of ha, readable_of (inMemory_readable ha)⟩

/-- Pre-indexed with write-back, post-indexed and T forms, r15 loaded, all at a readable address. -/
theorem witness_LoadWordByteResult :
    SdtOp.kind .ldr = some .word ∧ SdtOp.kind .ldrb = some .byte ∧ Cond.holds .al (svc 0 []).cpsr = true ∧
    (sdtInstr .ldr .al (.pre true) true 1 0 (.imm 4)).wf = true ∧
    (sdtInstr .ldr .al (.pre false) true 1 15 (.reg 0 .lsl 1)).wf = true ∧
    (sdtInstr .ldrb .al .post false 1 0 (.imm 0xFFF)).wf = true ∧
    (sdtInstr .ldrb .al .user true 1 0 (.reg 31 .ror 2)).wf = true ∧
    Readable State.reset.params (LoadKind.word.busAddress 0x03000001) ∧
    Readable State.reset.params (LoadKind.byte.busAddress 0x03000001) := by
  refine ⟨rfl, rfl, rfl, rfl, rfl, rfl, rfl, ?_, ?_⟩
  · exact (witness_memory 0x03000000 (by simp)).2
  · exact (witness_memory 0x03000001 (by simp)).2

/-- Odd halfword addresses under both values of the parameter, and an even one. -/
theorem witness_LoadHalfSignedResult :
    HwOp.kind .ldrsh = some .signedHalf ∧ (hwInstr .ldrsh .al true true true 1 0 (.imm 0 2)).wf = true ∧
    (hwInstr .ldrh .al false true false 1 0 (.reg 2)).wf = true ∧ OddHalf .signedHalf 0x03000001 ∧
    ¬ OddHalf .signedHalf 0x03000000 ∧ State.reset.params.oddHalfword = .arm7tdmi ∧
    ({ State.reset.params with oddHalfword := .refuse } : Params).oddHalfword = .refuse ∧
    Readable State.reset.params (LoadKind.signedHalf.busAddress 0x03000001) ∧
    Readable State.reset.params (LoadKind.half.busAddress 0x03000001) := by
  refine ⟨rfl, rfl, rfl, ⟨.inr rfl, rfl⟩, fun h => ?_, rfl, rfl, ?_, ?_⟩
  · exact absurd h.2 (by decide)
  · exact (witness_memory 0x03000001 (by simp)).2
  · exact (witness_memory 0x03000000 (by simp)).2

/-- Word, byte and halfword stores at a storing address, r15 stored, with and without write-back. -/
theorem witness_StoreResult :
    Memory.wf State.reset.mem = true ∧ Cond.holds .al (svc 0 []).cpsr = true ∧
    (sdtInstr .str .al (.pre true) true 1 15 (.imm 4)).wf = true ∧
    (sdtInstr .strb .al .post true 1 0 (.imm 4)).wf = true ∧
    (hwInstr .strh .al false true false 1 0 (.imm 0 2)).wf = true ∧
    InMemory State.reset.params (storeAddress 4 0x03000001) ∧ InMemory State.reset.params (storeAddress 1 0x03000001) ∧
    InMemory State.reset.params (align2 0x03000001) := by
  refine ⟨rfl, rfl, rfl, rfl, rfl, ?_, ?_, ?_⟩
  · exact (witness_memory 0x03000000 (by simp)).1
  · exact (witness_memory 0x03000001 (by simp)).1
  · exact (witness_memory 0x03000000 (by simp)).1

/-- A store to memory, a store to a register and a store that a ROM ignores, none of them failing. -/
theorem witness_StoreFrame :
    Memory.wf (mem7 []).mem = true ∧
    goes (exec (sdtInstr .strb .al .post true 1 0 (.imm 4)) (mem7 [(1, 0x03000000)])) (fun _ => true) = true ∧
    goes (exec (hwInstr .strh .al true true false 1 0 (.imm 0 2)) (mem7 [(1, 0x04000200)])) (fun _ => true) = true ∧
    ((mem7 []).store8 0x03000000 5).isSome = true ∧ ((mem7 []).store16 0x04000202 5).isSome = true ∧
    ((mem7 []).store32 0x08000000 5).isSome = true := by
  decide +kernel

/-- Loads of each kind from an address without a node; stores that an external node fails; a swap whose load succeeds and
whose store fails. -/
theorem witness_FailedAccessAborts :
    LoadKind.word.fails State.reset 0x01000003 ∧ LoadKind.byte.fails State.reset 0x01000003 ∧
    LoadKind.half.fails State.reset 0x01000003 ∧ LoadKind.signedHalf.fails State.reset 0x01000003 ∧
    LoadKind.signedHalf.fails State.reset 0x01000002 ∧
    storeFails 4 (external [failingStore]) 0x04000400 5 ∧ storeFails 2 (external [failingStore]) 0x04000400 5 ∧
    storeFails 1 (external [failingStore]) 0x04000400 5 ∧
    (external [failingStore]).load32 0x04000400 = some 0 ∧ (external [failingStore]).load8 0x04000400 = some 0 ∧
    (Instr.swp .al 2 0 1).wf = true ∧ (Instr.swpb .al 2 0 1).wf = true :=
  ⟨rfl, rfl, rfl, rfl, rfl, rfl, rfl, rfl, rfl, rfl, rfl, rfl⟩

/-- The places of a block of two words in a bank, aligned or not. -/
theorem witness_slots (start : Word) (h : start = 0x03000000 ∨ start = 0x03000001) :
    SlotsWritable State.reset.params start 2 ∧ SlotsReadable State.reset.params start 2 := by
  have hk : ∀ k, k < 2 → InMemory State.reset.params (slot start k) := by
    intro k hlt
    have : k = 0 ∨ k = 1 := by omega
    rcases this with rfl | rfl <;> rcases h with rfl | rfl
    · exact (witness_memory 0x03000000 (by simp)).1
    · exact (witness_memory 0x03000000 (by simp)).1
    · exact (witness_memory 0x03000004 (by simp)).1
    · exact (witness_memory 0x03000004 (by simp)).1
  refine ⟨hk, fun k hlt => ?_⟩
  obtain ⟨bank, off, r, ht, hl, _⟩ := hk k hlt
  exact ⟨bank, off, r, ht, hl⟩

/-- The base outside the list with write-back, the base in the list, r15 in the list; and the narrow form. -/
theorem witness_LoadMultipleResult :
    (Instr.ldm .al false true true 0 0x0006).wf = true ∧ (Instr.ldm .al false true true 0 0x8001).wf = true ∧
    listCount 0x0006 = 2 ∧ listCount 0x8001 = 2 ∧ (0x0006 : BitVec 16).getLsbD (0 : Reg).toNat = false ∧
    (0x8001 : BitVec 16).getLsbD 15 = true ∧ blockStart false true 0x03000000 0x0006 = 0x03000000 ∧
    (0x06 : BitVec 8) ≠ 0 ∧ listCount ((0x06 : BitVec 8).setWidth 16) = 2 ∧ Cond.holds .al (svc 0 []).cpsr = true := by
  decide +kernel

/-- STM with the base in the list and written back; STMIA; PUSH with LR. -/
theorem witness_StoreMultipleResult :
    Memory.wf State.reset.mem = true ∧ (Instr.stm .al false true true 1 0x0003).wf = true ∧ listCount 0x0003 = 2 ∧
    blockStart false true 0x03000001 0x0003 = 0x03000001 ∧ (0x06 : BitVec 8) ≠ 0 ∧
    (0#1 ++ BitVec.ofBool true ++ 0#6 ++ (0x10 : BitVec 8) : BitVec 16) = 0x4010 ∧ listCount 0x4010 = 2 ∧
    (0x03000008 : Word) - BitVec.ofNat 32 (4 * listCount 0x4010) = 0x03000000 := by decide +kernel

theorem witness_UserBankTransfers :
    (Instr.ldmUser .al false true false 0 0x6000).wf = true ∧ (Instr.stmUser .al false true false 0 0x8001).wf = true ∧
    (0#1 ++ (0x6000 : BitVec 15) : BitVec 16) = 0x6000 ∧ listCount 0x6000 = 2 ∧ listCount 0x8001 = 2 ∧
    (given .fiq 0 [] []).cpsr.mode.bank = .fiq ∧ (given .irq 0 [] []).cpsr.mode.bank ≠ .usr ∧
    blockStart false true 0x03000000 0x6000 = 0x03000000 := by decide +kernel

theorem witness_LoadMultipleReturn :
    Cond.holds .al (svc 0 []).cpsr = true ∧ (13 : Reg) ≠ 15 ∧ (1#1 ++ (1 : BitVec 15) : BitVec 16) = 0x8001 ∧
    listCount 0x8001 = 2 ∧ blockStart false true 0x03000000 0x8001 = 0x03000000 ∧
    (0x8001 : BitVec 16).getLsbD (13 : Reg).toNat = false ∧ (svc 0 []).cpsr.mode.hasSpsr = true ∧
    (saved 0x10 (svc 0 [])).spsr.toStatus = some (given .user 0 [] []).cpsr ∧
    (given .system 0 [] []).cpsr.mode.hasSpsr = false := by decide +kernel

/-- POP of the PC alone is a list of one; with a register, of two. -/
theorem witness_PopResult :
    (BitVec.ofBool true ++ 0#7 ++ (0x10 : BitVec 8) : BitVec 16) = 0x8010 ∧ listCount 0x8010 = 2 ∧
    SlotsReadable State.reset.params 0x03000000 2 :=
  ⟨by decide +kernel, by decide +kernel, (witness_slots 0x03000000 (.inl rfl)).2⟩

/-- Loads whose first place fails, and whose second place, past the boot ROM, fails; stores whose second place an external
node fails; each instruction has a well-formed form with a list of two. -/
theorem witness_BlockTransferAborts :
    (Instr.ldm .al false true true 0 0x0006).wf = true ∧ (Instr.ldmCpsr .al false true true 0 0x0006).wf = true ∧
    (Instr.tLdmia 0 0x06).wf = true ∧ (Instr.tPop true 0x06).wf = true ∧
    (Instr.ldmUser .al false true false 0 0x6000).wf = true ∧ (Instr.stm .al false true true 1 0x0003).wf = true ∧
    (Instr.stmUser .al false true false 0 0x0003).wf = true ∧ (Instr.tStmia 0 0x06).wf = true ∧
    (Instr.tPush true 0x10).wf = true ∧ (svc 0 []).cpsr.mode.hasSpsr = true ∧
    (0 : Nat) < listCount 0x0006 ∧ (1 : Nat) < listCount 0x0006 ∧
    State.reset.load32 (slot 0x01000000 0) = none ∧
    State.reset.load32 (slot 0x00003FFC 0) ≠ none ∧ State.reset.load32 (slot 0x00003FFC 1) = none ∧
    Memory.wf (external [ioWord 0xFF, failingStore]).mem = true ∧
    inMemory (external [ioWord 0xFF, failingStore]).params (slot 0x040003FC 0) = true ∧
    (external [ioWord 0xFF, failingStore]).store32 (slot 0x040003FC 1) 7 = none := by decide +kernel

theorem witness_SwapResult :
    Memory.wf (mem7 []).mem = true ∧ (Instr.swp .al 2 0 0).wf = true ∧ (Instr.swpb .al 2 0 1).wf = true ∧
    InMemory State.reset.params (align4 0x03000001) ∧ InMemory State.reset.params 0x03000001 :=
  ⟨by decide +kernel, rfl, rfl, (witness_memory 0x03000000 (by simp)).1, (witness_memory 0x03000001 (by simp)).1⟩

theorem witness_BranchResult : Cond.holds .al (svc 0 []).cpsr = true ∧ Cond.holds .eq (svc 0b0100 []).cpsr = true := by
  decide +kernel

theorem witness_StatusReadResult :
    (14 : Reg) ≠ 15 ∧ (svc 0 []).cpsr.mode.hasSpsr = true ∧ (given .user 0 [] []).cpsr.mode.hasSpsr = false ∧
    Cond.holds .al (svc 0 []).cpsr = true := by decide +kernel

/-- A legal control write, one that changes T, one with an illegal mode; and User mode, where control is off. -/
theorem witness_StatusWriteCpsr :
    Mode.ofBits ((0x9000001F : Word).extractLsb' 0 5) = some .system ∧
    (0x9000001F : Word).getLsbD 5 = (svc 0 []).cpsr.t ∧ (0x33 : Word).getLsbD 5 ≠ (svc 0 []).cpsr.t ∧
    (0 : Word).getLsbD 5 = (svc 0 []).cpsr.t ∧ Mode.ofBits ((0 : Word).extractLsb' 0 5) = none ∧
    ((9 : BitVec 4).getLsbD 0 && (svc 0 []).cpsr.mode != .user) = true ∧
    ((9 : BitVec 4).getLsbD 0 && (given .user 0 [] []).cpsr.mode != .user) = false ∧
    (BitVec.setWidth 32 (0x1F : BitVec 8)).rotateRight (2 * (0 : BitVec 4).toNat) = 0x1F ∧
    (svc 0 [(0, 0x1F)]).reg 0 = 0x1F ∧ (0 : Reg) ≠ 15 := by decide +kernel

theorem witness_StatusWriteSpsr :
    (svc 0 []).cpsr.mode.hasSpsr = true ∧ (given .user 0 [] []).cpsr.mode.hasSpsr = false ∧
    (svc 0 [(0, 0x1F)]).reg 0 = 0x1F ∧ (0 : Reg) ≠ 15 := by decide +kernel

theorem witness_TrapsTaken : Cond.holds .al (svc 0 []).cpsr = true := by decide +kernel

theorem witness_NarrowHighAndAddressResult :
    (15 : Reg) = (BitVec.ofBool true ++ (7 : LoReg) : BitVec 4) ∧
    (0 : Reg) = (BitVec.ofBool false ++ (0 : LoReg) : BitVec 4) := by decide +kernel

theorem witness_NarrowActsAsWide :
    (8 : Reg) = (BitVec.ofBool true ++ (0 : LoReg) : BitVec 4) ∧ (8 : Reg) ≠ 15 ∧ (0 : LoReg) ≠ 7 := by decide +kernel

/-- An odd halfword address under both values of the parameter; the PC- and SP-relative forms. -/
theorem witness_NarrowLoadResult :
    TLoad.address .halfReg 2 0 1 (svc 0 [(1, 0x03000000), (2, 1)]) = 0x03000001 ∧ OddHalf .half 0x03000001 ∧
    ({ State.reset.params with oddHalfword := .refuse } : Params).oddHalfword = .refuse ∧
    State.reset.params.oddHalfword = .arm7tdmi ∧ Readable State.reset.params (LoadKind.half.busAddress 0x03000001) ∧
    ((svc 0 [(15, 0x03000006)]).reg 15 &&& 0xFFFFFFFC) + BitVec.ofNat 32 (4 * (0 : BitVec 8).toNat) = 0x03000004 ∧
    Readable State.reset.params (align4 0x03000004) ∧
    (svc 0 [(13, 0x02FFFC04)]).reg 13 + BitVec.ofNat 32 (4 * (255 : BitVec 8).toNat) = 0x03000000 ∧
    Readable State.reset.params (align4 0x03000000) :=
  ⟨by decide +kernel, ⟨.inl rfl, rfl⟩, rfl, rfl, (witness_memory 0x03000000 (by simp)).2, by decide +kernel,
    (witness_memory 0x03000004 (by simp)).2, by decide +kernel, (witness_memory 0x03000000 (by simp)).2⟩

theorem witness_NarrowStoreResult :
    Memory.wf State.reset.mem = true ∧
    storeAddress (TStore.bytes .halfImm) (TStore.address .halfImm 0 31 1 (svc 0 [(1, 0x02FFFFC3)])) = 0x03000000 ∧
    InMemory State.reset.params 0x03000000 ∧
    align4 ((svc 0 [(13, 0x03000001)]).reg 13 + BitVec.ofNat 32 (4 * (0 : BitVec 8).toNat)) = 0x03000000 :=
  ⟨rfl, by decide +kernel, (witness_memory 0x03000000 (by simp)).1, by decide +kernel⟩

theorem witness_NarrowBranchResult :
    branchInstr .le 0x80 = some (.tBle 0x80) ∧ Cond.holds .le (svc 0b0100 []).cpsr = true ∧
    Cond.holds .le (svc 0 []).cpsr = false := by decide +kernel

theorem witness_BranchLinkPair : (narrow State.reset).redirected = false := by decide +kernel

/-- The invariant holds at reset, and reset steps to a next state. -/
theorem witness_StepKeepsInvariant :
    Memory.wf State.reset.mem = true ∧ State.reset.redirected = false ∧ State.reset.dev.restful State.reset.params = true ∧
    (∀ t : Fin 4, (State.reset.dev.timers[t]).consistent State.reset.params State.reset.dev.now t = true) ∧
    (∀ ch : Fin 4, (State.reset.dev.dma[ch]).active = false) ∧ (∀ k : Fin 4, 1 ≤ State.reset.params.prescaler[k]) ∧
    goes (step State.reset) (fun _ => true) = true := by decide +kernel

/-- In User mode, a plain instruction and a software interrupt both answer a next state. -/
theorem witness_UserModeIsConfined :
    (given .user 0 [] []).cpsr.mode = .user ∧
    goes (exec (.addImm .al true 0 0 0 1) (given .user 0 [] [])) (fun t => t.cpsr.mode == .user) = true ∧
    goes (exec (.swi .al 0) (given .user 0 [] [])) (fun t => t.cpsr.mode == .supervisor) = true := by decide +kernel

theorem witness_WidthChangesOnlyBy :
    goes (exec (.bx .al 0) (svc 0 [(0, 1)])) (fun t => t.cpsr.t) = true ∧ (svc 0 [(0, 1)]).cpsr.t = false := by
  decide +kernel

theorem witness_WhenInstructionsStop :
    (Instr.mul .al false 0 0 1 0).unpredictable = some .multiplyRdIsRm ∧ condOf (.mul .al false 0 0 1 0) = some .al ∧
    Cond.holds .al (svc 0 []).cpsr = true ∧
    stops (exec (.mrsSpsr .al 0) (given .user 0 [] [])) .noSpsr = true := by decide +kernel

theorem witness_MixedWidthMemory :
    Memory.wf State.reset.mem = true ∧ (0x02FFFFFC : Word).toNat % 4 = 0 ∧ InMemory State.reset.params 0x02FFFFFC :=
  ⟨rfl, by decide +kernel, (witness_memory 0x02FFFFFC (by simp)).1⟩

theorem witness_UnmappedAddresses :
    State.reset.params.upperAddr = .unmapped ∧ (0x10000000 : Word).extractLsb' 28 4 ≠ 0 ∧
    (0xFFFFFFFF : Word).extractLsb' 28 4 ≠ 0 := by decide +kernel

/-- Nothing enabled is pending; something is; Halted and Stopped machines with and without IME, a source in and one
outside the wake mask, and the source's bit stored to IE. -/
theorem witness_HaltAndWake :
    (irqs 1 2 true .run).dev.enabled &&& (irqs 1 2 true .run).dev.pending = 0 ∧
    (irqs 1 1 true .run).dev.enabled &&& (irqs 1 1 true .run).dev.pending ≠ 0 ∧
    (irqs 0 0 true .halt).dev.power = .halt ∧ (irqs 0 0 true .halt).dev.master = true ∧
    (0x2000 : Half).getLsbD (13 : Fin 14).val = true ∧ (irqs 0 0 true .stop).dev.power = .stop ∧
    State.reset.params.stopWakeMask.getLsbD (13 : Fin 14).val = true ∧
    State.reset.params.stopWakeMask.getLsbD (0 : Fin 14).val = false ∧
    State.reset.params.wakeRequiresIme = true ∧ (irqs 0x80 0x80 false .stop).dev.master = false ∧
    (irqs 0x80 0x80 false .stop).dev.enabled &&& (irqs 0x80 0x80 false .stop).dev.pending &&&
      State.reset.params.stopWakeMask ≠ 0 ∧
    (irqs 1 1 true .stop).dev.enabled &&& (irqs 1 1 true .stop).dev.pending &&& State.reset.params.stopWakeMask = 0 ∧
    (irqs 1 0 true .halt).dev.enabled.getLsbD (13 : Fin 14).val = false := by decide +kernel

/-- The ends of each block, and a register that reads as it was written. -/
theorem witness_RegistersOnTheBus :
    CoreRegister 0x040000B0 ∧ CoreRegister 0x040000DC ∧ CoreRegister 0x0400010C ∧ CoreRegister 0x04000208 ∧
    CoreRegister 0x04000301 ∧ (0x040000DC : Word).toNat % 4 = 0 ∧ (0x04000208 : Word).toNat % 4 = 0 ∧
    State.reset.load16 0x04000200 = some 0 ∧ State.reset.load16 (dmaAddress 3 10) = some 0 := by
  simp only [CoreRegister]
  decide +kernel

/-- Channel 3 set up for the documented transfer; a running channel that steps down in the destination and repeats, all
its units in memory and none reading what an earlier one wrote; a store to CTRL that enables and one that disables. -/
theorem witness_DmaTransfer :
    (let c := { DmaChannel.reset with sad := 0x02000000, dad := 0x03000000, cnt := 2 }
     let p := State.reset.params
     c.ctrl.enable = false ∧ c.cnt = 2 ∧ p.dmaCountMask[(3 : Fin 4)] &&& 2 = (2 : Half) ∧
       c.sad.toNat % 4 = 0 ∧ c.dad.toNat % 4 = 0 ∧ readable p c.sad = true ∧ readable p (c.sad + 4) = true ∧
       inMemory p c.dad = true ∧ inMemory p (c.dad + 4) = true ∧ cellOf p (c.sad + 4) ≠ cellOf p c.dad ∧
       cellOf p (c.dad + 4) ≠ cellOf p c.dad) ∧ Memory.wf State.reset.mem = true ∧
    (let c := { DmaChannel.reset with src := 0x02000001, dst := 0x03000003, remaining := 2 }
     let sa := fun k => storeAddress 2 (AddrMode.fixed.at c.src 2 k)
     let da := fun k => storeAddress 2 (AddrMode.decrement.at c.dst 2 k)
     (List.range 2).all (fun k => readable State.reset.params (sa k) && inMemory State.reset.params (da k)) = true ∧
       cellOf State.reset.params (da 0) ≠ cellOf State.reset.params (sa 1) ∧
       cellOf State.reset.params (da 1) ≠ cellOf State.reset.params (da 0)) ∧
    (0x8000 : Half).getLsbD 15 = true ∧ (0x7FFF : Half).getLsbD 15 = false := by decide +kernel

/-- Both sides of the first overflow. -/
theorem witness_TimerCounts65536 :
    State.reset.params.prescaler[0] = 1 ∧ (State.reset.dev.timers[(0 : Fin 4)]).control.start = false ∧
    (State.reset.dev.timers[(0 : Fin 4)]).reload = 0 ∧
    (∀ t : Fin 4, t ≠ 0 → (State.reset.dev.timers[t]).control.start = false) ∧ State.reset.dev.notices = [] ∧
    (65535 : Nat) < 65536 ∧ (65536 : Nat) ≤ 65536 ∧ (131071 : Nat) < 131072 := by decide +kernel

/-- A cascaded channel after its parent, below its wrap and at it; and a stopped one. -/
theorem witness_CascadeCountsOverflows :
    (1 : Fin 4).val = (0 : Fin 4).val + 1 ∧ (3 : Fin 4).val = (2 : Fin 4).val + 1 ∧
    (let c := { TimerChannel.reset with
        control := { prescaler := 0, cascade := true, irq := false, start := true }, counter := 0xFFFE }
     c.control.start = true ∧ c.control.cascade = true ∧ c.counter ≠ 0xFFFF ∧
       ({ c with counter := 0xFFFF } : TimerChannel).counter = 0xFFFF ∧
       ¬(TimerChannel.reset.control.start = true ∧ TimerChannel.reset.control.cascade = true)) := by decide +kernel

end Sys2Proof.Tests
end

section
/-! PROOF. When an instruction stops (00_scope R12, 93_implementation_defined section 1). Every meaning is a body under
the instruction's condition and its operand check; the body alone answers a next state or stops for a reason that the
state gives. -/

namespace Sys2Proof.Machine

/-! ## The bodies -/

/-- The reasons, refused operand combinations aside, for which an instruction may stop in `st` (93 U1, U2, U10). -/
def State.MayStop (st : State) (r : Refusal) : Prop :=
  (r = .noSpsr ∧ st.cpsr.mode.hasSpsr = false) ∨ r = .illegalMode ∨ r = .msrChangesWidth ∨
    (r = .oddHalfwordLoad ∧ st.params.oddHalfword = .refuse)

/-- `o` is a next state or a stop that `st` allows; in particular no fault. -/
def State.Allows (st : State) (o : Outcome) : Prop := (∃ t, o = .next t) ∨ ∃ r, o = .refused r ∧ st.MayStop r

theorem State.allows_next (st t : State) : st.Allows (.next t) := .inl ⟨t, rfl⟩

theorem State.allows_refused {st : State} {r : Refusal} (h : st.MayStop r) : st.Allows (.refused r) :=
  .inr ⟨r, rfl, h⟩

/-- A return in a state with the status word of `st`. -/
theorem State.restoreStatus_allowed {st s : State} {k : State → Outcome} (hc : s.cpsr = st.cpsr)
    (hk : ∀ t, st.Allows (k t)) : st.Allows (s.restoreStatus k) := by
  obtain ⟨hs, e⟩ | ⟨_, _, e⟩ | ⟨new, _, _, e⟩ := s.restoreStatus_cases k <;> rw [e]
  · exact allows_refused (.inl ⟨rfl, hc ▸ hs⟩)
  · exact allows_refused (.inr (.inl rfl))
  · exact hk _

theorem State.dataProc_allowed (st : State) (o : AluOp) (s : Bool) (rd : Reg) (op1 : Word) (op2 : Shifted) :
    st.Allows (st.dataProc o s rd op1 op2) := by
  unfold State.dataProc State.writeAlu
  split
  · split
    · exact restoreStatus_allowed rfl fun t => st.allows_next _
    · exact st.allows_next _
  · split <;> exact st.allows_next _

theorem State.writeMul_allowed (st : State) (s : Bool) (rd : Reg) (r : Word) : st.Allows (st.writeMul s rd r) := by
  cases s <;> exact st.allows_next _

theorem State.writeLong_allowed (st : State) (s : Bool) (rdHi rdLo : Reg) (p : BitVec 64) :
    st.Allows (st.writeLong s rdHi rdLo p) := by
  cases s <;> exact st.allows_next _

theorem State.load_allowed (st : State) (rn rd : Reg) (x : Transfer) (v : Option Word) :
    st.Allows (st.load rn rd x v) := by
  cases v <;> exact st.allows_next _

theorem State.store_allowed (st : State) (rn : Reg) (x : Transfer) (v : Option State) :
    st.Allows (st.store rn x v) := by
  cases v <;> exact st.allows_next _

theorem State.loadLo_allowed (st : State) (rd : LoReg) (v : Option Word) : st.Allows (st.loadLo rd v) := by
  cases v <;> exact st.allows_next _

theorem State.storeLo_allowed (st : State) (v : Option State) : st.Allows (st.storeLo v) := by
  cases v <;> exact st.allows_next _

theorem State.swap_allowed (st : State) (rd : Reg) (v : Option Word) (x : Option State) :
    st.Allows (st.swap rd v x) := by
  cases v <;> cases x <;> exact st.allows_next _

theorem State.halfwordGuard_allowed {st : State} {k : Outcome} (ea : Word) (hk : st.Allows k) :
    st.Allows (st.halfwordGuard ea k) := by
  unfold State.halfwordGuard
  split
  · next h => exact allows_refused (.inr (.inr (.inr ⟨rfl, h.2⟩)))
  · exact hk

theorem Block.finish_allowed {st : State} {b : Block} {k : State → Word → Outcome}
    (hk : ∀ target, st.Allows (k b.state target)) : st.Allows (b.finish k) := by
  cases b with
  | aborted s => exact st.allows_next _
  | done s target => exact hk target

theorem State.loadMultiple_allowed (st : State) (p u w : Bool) (rn : Reg) (rlist : BitVec 16) :
    st.Allows (st.loadMultiple p u w rn rlist) := Block.finish_allowed fun _ => st.allows_next _

theorem State.storeMultiple_allowed (st : State) (p u w : Bool) (rn : Reg) (rlist : BitVec 16) :
    st.Allows (st.storeMultiple p u w rn rlist) := Block.finish_allowed fun _ => st.allows_next _

theorem State.loadUser_allowed (st : State) (p u : Bool) (rn : Reg) (rlist : BitVec 16) :
    st.Allows (st.loadUser p u rn rlist) := Block.finish_allowed fun _ => st.allows_next _

theorem State.storeUser_allowed (st : State) (p u : Bool) (rn : Reg) (rlist : BitVec 16) :
    st.Allows (st.storeUser p u rn rlist) := Block.finish_allowed fun _ => st.allows_next _

theorem State.pop_allowed (st : State) (rlist : BitVec 16) : st.Allows (st.pop rlist) :=
  Block.finish_allowed fun _ => st.allows_next _

/-- The loads of LDM leave the status word alone (45 R273). -/
theorem State.ldmLoads_cpsr (st : State) (p u : Bool) (rn : Reg) (rlist : BitVec 16) :
    (st.ldmLoads State.setReg p u rn rlist).state.cpsr = st.cpsr :=
  State.loadBlock_kept (P := fun s => s.cpsr = st.cpsr) (fun s r v _ h => (s.setReg_cpsr r v).trans h) _ _ _ rfl

theorem State.blockBase_cpsr (s : State) (w : Bool) (rn : Reg) (rlist : BitVec 16) (final : Word) :
    (s.blockBase w rn rlist final).cpsr = s.cpsr := by
  unfold State.blockBase
  split <;> rfl

theorem State.loadReturn_allowed (st : State) (p u w : Bool) (rn : Reg) (rlist : BitVec 16) :
    st.Allows (st.loadReturn p u w rn rlist) := by
  unfold State.loadReturn
  split
  · refine Block.finish_allowed fun target => restoreStatus_allowed ?_ fun t => st.allows_next _
    rw [State.blockBase_cpsr, State.ldmLoads_cpsr]
  · next h => exact allows_refused (.inl ⟨rfl, by simpa using h⟩)

theorem State.writeCpsr_allowed (st : State) (fmask : BitVec 4) (v : Word) : st.Allows (st.writeCpsr fmask v) := by
  unfold State.writeCpsr
  dsimp only
  split
  · exact allows_refused (.inr (.inr (.inl rfl)))
  · split
    · exact st.allows_next _
    · exact allows_refused (.inr (.inl rfl))

theorem State.writeSpsr_allowed (st : State) (fmask : BitVec 4) (v : Word) : st.Allows (st.writeSpsr fmask v) := by
  unfold State.writeSpsr
  split
  · exact st.allows_next _
  · next h => exact allows_refused (.inl ⟨rfl, by simpa using h⟩)

theorem State.readSpsr_allowed (st : State) (rd : Reg) : st.Allows (st.readSpsr rd) := by
  unfold State.readSpsr
  split
  · exact st.allows_next _
  · next h => exact allows_refused (.inl ⟨rfl, by simpa using h⟩)

/-! ## The form of every meaning -/

/-- The body `k` under the condition of an instruction, where it has one (40 R154, R155). -/
def State.underCondition (st : State) (c : Option Cond) (k : Outcome) : Outcome :=
  match c with
  | some c => st.ifPassed c k
  | none => k

theorem State.underCondition_passed {st : State} {c : Option Cond} (h : ∀ c', c = some c' → Cond.holds c' st.cpsr = true)
    (k : Outcome) : st.underCondition c k = k := by
  cases c with
  | none => rfl
  | some c => exact State.ifPassed_pos (h c rfl) k

theorem State.underCondition_cases (st : State) (c : Option Cond) (k : Outcome) :
    st.underCondition c k = .next st ∨ st.underCondition c k = k := by
  cases c with
  | none => exact .inr rfl
  | some c =>
    cases h : Cond.holds c st.cpsr with
    | false => exact .inl (State.ifPassed_neg h k)
    | true => exact .inr (State.ifPassed_pos h k)

/-- Every instruction is an allowed body under its own condition and its own operand check. -/
theorem exec_form (i : Instr) (st : State) :
    ∃ k, st.Allows k ∧ exec i st = st.underCondition (condOf i) (guarded i.unpredictable k) := by
  cases i
  -- data processing and multiplies
  case andImm | andRegIs | andRegRs | eorImm | eorRegIs | eorRegRs | subImm | subRegIs | subRegRs | rsbImm | rsbRegIs
      | rsbRegRs | addImm | addRegIs | addRegRs | adcImm | adcRegIs | adcRegRs | sbcImm | sbcRegIs | sbcRegRs | rscImm
      | rscRegIs | rscRegRs | orrImm | orrRegIs | orrRegRs | movImm | movRegIs | movRegRs | bicImm | bicRegIs | bicRegRs
      | mvnImm | mvnRegIs | mvnRegRs =>
    exact ⟨_, st.dataProc_allowed _ _ _ _ _, rfl⟩
  case mul | mla => exact ⟨_, st.writeMul_allowed _ _ _, rfl⟩
  case umull | umlal | smull | smlal => exact ⟨_, st.writeLong_allowed _ _ _ _, rfl⟩
  -- status transfers
  case mrsSpsr => exact ⟨_, st.readSpsr_allowed _, rfl⟩
  case msrRegCpsr | msrImmCpsr => exact ⟨_, st.writeCpsr_allowed _ _, rfl⟩
  case msrRegSpsr | msrImmSpsr => exact ⟨_, st.writeSpsr_allowed _ _, rfl⟩
  -- single transfers and swap
  case ldrImmPre | ldrImmPost | ldrRegPre | ldrRegPost | ldrtImm | ldrtReg | ldrbImmPre | ldrbImmPost | ldrbRegPre
      | ldrbRegPost | ldrbtImm | ldrbtReg | ldrsbReg | ldrsbImm =>
    exact ⟨_, st.load_allowed _ _ _ _, rfl⟩
  case ldrhReg | ldrhImm | ldrshReg | ldrshImm =>
    exact ⟨_, State.halfwordGuard_allowed _ (st.load_allowed _ _ _ _), rfl⟩
  case strImmPre | strImmPost | strRegPre | strRegPost | strtImm | strtReg | strbImmPre | strbImmPost | strbRegPre
      | strbRegPost | strbtImm | strbtReg | strhReg | strhImm =>
    exact ⟨_, st.store_allowed _ _ _, rfl⟩
  case tLdrPc | tLdrReg | tLdrbReg | tLdsbReg | tLdrImm | tLdrbImm | tLdrSp => exact ⟨_, st.loadLo_allowed _ _, rfl⟩
  case tLdrhReg | tLdshReg | tLdrhImm => exact ⟨_, State.halfwordGuard_allowed _ (st.loadLo_allowed _ _), rfl⟩
  case tStrReg | tStrbReg | tStrhReg | tStrImm | tStrbImm | tStrhImm | tStrSp => exact ⟨_, st.storeLo_allowed _, rfl⟩
  case swp | swpb => exact ⟨_, st.swap_allowed _ _ _, rfl⟩
  -- block transfers
  case ldm | tLdmia => exact ⟨_, st.loadMultiple_allowed _ _ _ _ _, rfl⟩
  case stm | tStmia | tPush => exact ⟨_, st.storeMultiple_allowed _ _ _ _ _, rfl⟩
  case ldmUser => exact ⟨_, st.loadUser_allowed _ _ _ _, rfl⟩
  case stmUser => exact ⟨_, st.storeUser_allowed _ _ _ _, rfl⟩
  case ldmCpsr => exact ⟨_, st.loadReturn_allowed _ _ _ _ _, rfl⟩
  case tPop => exact ⟨_, st.pop_allowed _, rfl⟩
  -- comparisons, branches, exceptions and the narrow operations always answer a next state
  all_goals exact ⟨_, st.allows_next _, rfl⟩

/-- How an instruction ends: in a next state, at its refused operand combination, or at a stop that the state allows. -/
theorem exec_cases (i : Instr) (st : State) :
    (∃ t, exec i st = .next t) ∨ (∃ u, i.unpredictable = some u ∧ exec i st = .refused (.unpredictable u)) ∨
      ∃ r, exec i st = .refused r ∧ st.MayStop r := by
  obtain ⟨k, hk, he⟩ := exec_form i st
  obtain hc | hc := st.underCondition_cases (condOf i) (guarded i.unpredictable k) <;> rw [he, hc]
  · exact .inl ⟨st, rfl⟩
  · cases hu : i.unpredictable with
    | some u => exact .inr (.inl ⟨u, rfl, rfl⟩)
    | none =>
      rw [guarded_none rfl]
      exact hk.imp_right .inr

/-- A refused operand combination stops the instruction under its own name where the condition passes. -/
theorem exec_of_unpredictable {i : Instr} {st : State} {u : Unpredictable} (hu : i.unpredictable = some u)
    (hc : ∀ c, condOf i = some c → Cond.holds c st.cpsr = true) : exec i st = .refused (.unpredictable u) := by
  obtain ⟨k, _, he⟩ := exec_form i st
  rw [he, State.underCondition_passed hc, hu]
  rfl

/-- Settles O53: every instruction is an allowed body under its own condition and operand check. -/
theorem whenInstructionsStop : Obligations.WhenInstructionsStop := by
  intro i st
  refine ⟨fun u hu hc => exec_of_unpredictable hu hc, fun f hf => ?_, fun r hr => ?_⟩
  · obtain ⟨t, h⟩ | ⟨u, _, h⟩ | ⟨q, h, _⟩ := exec_cases i st <;> cases h.symm.trans hf
  · obtain ⟨t, h⟩ | ⟨u, hu, h⟩ | ⟨q, h, hq⟩ := exec_cases i st <;> cases h.symm.trans hr
    · exact .inl ⟨u, rfl, hu⟩
    · exact .inr hq

end Sys2Proof.Machine
end

section
/-! PROOF. How an instruction ends, said once for the whole instruction set: what it has written on the way, and
which of the seven endings it takes. -/

namespace Sys2Proof.Machine

/-! ## The writes of an instruction -/

/-- A bus store of some width that was accepted (20_memory R72). -/
inductive BusStored (s t : State) : Prop where
  | byte (a : Word) (v : Byte) (h : s.store8 a v = some t)
  | half (a : Word) (v : Half) (h : s.store16 a v = some t)
  | word (a v : Word) (h : s.store32 a v = some t)

theorem BusStored.effect {s t : State} (h : BusStored s t) : StoreEffect s t := by
  cases h with
  | byte a v h => exact State.store8_effect h
  | half a v h => exact State.store16_effect h
  | word a v h => exact State.store32_effect h

/-- One write that leaves the status words alone: a register, a User-mode register, the PC, or a bus store. -/
inductive Write (s : State) : State → Prop where
  | reg (r : Reg) (v : Word) : Write s (s.setReg r v)
  | usrReg (r : Reg) (v : Word) : Write s (s.setUsrReg r v)
  | pc (v : Word) : Write s (s.branchTo v)
  | bus {t : State} (h : BusStored s t) : Write s t

/-- Writes, one after the other. -/
abbrev Writes : State → State → Prop := Relation.ReflTransGen Write

theorem Writes.refl {s : State} : Writes s s := Relation.ReflTransGen.refl

theorem Writes.tail {s t u : State} (h : Writes s t) (hw : Write t u) : Writes s u := Relation.ReflTransGen.tail h hw

theorem Writes.trans {s t u : State} (h : Writes s t) (h' : Writes t u) : Writes s u := Relation.ReflTransGen.trans h h'

/-- What every write keeps, writes one after the other keep. -/
theorem Writes.kept {P : State → Prop} {s t : State} (h : Writes s t) (hP : ∀ s t, Write s t → P s → P t) (hs : P s) :
    P t := by
  induction h with
  | refl => exact hs
  | tail _ hw ih => exact hP _ _ hw ih

/-- A write of a User-mode register changes the live register or its cell in the banks, and nothing else (45 R276). -/
theorem State.setUsrReg_cases (s : State) (r : Reg) (v : Word) :
    s.setUsrReg r v = s.setReg r v ∨ (s.cpsr.mode.bank ≠ .usr ∧ ∃ b, s.setUsrReg r v = { s with banks := b }) := by
  unfold State.setUsrReg
  split
  · next h => exact .inr ⟨by rw [h.2.2]; decide, _, rfl⟩
  · split
    · next h => exact .inr ⟨h.2, _, rfl⟩
    · split
      · next h => exact .inr ⟨h.2, _, rfl⟩
      · exact .inl rfl

/-- A write leaves both status words alone. -/
theorem Write.status {s t : State} (h : Write s t) : t.cpsr = s.cpsr ∧ t.spsr = s.spsr := by
  cases h with
  | reg r v => exact ⟨rfl, rfl⟩
  | usrReg r v => obtain h | ⟨_, b, h⟩ := s.setUsrReg_cases r v <;> rw [h] <;> exact ⟨rfl, rfl⟩
  | pc v => exact ⟨rfl, rfl⟩
  | bus h =>
    obtain ⟨_, hc, hs, _⟩ := h.effect.core
    exact ⟨hc, hs⟩

theorem Writes.status {s t : State} (h : Writes s t) : t.cpsr = s.cpsr ∧ t.spsr = s.spsr :=
  h.kept (P := fun u => u.cpsr = s.cpsr ∧ u.spsr = s.spsr)
    (fun _ _ hw hs => ⟨hw.status.1.trans hs.1, hw.status.2.trans hs.2⟩) ⟨rfl, rfl⟩

theorem Writes.reg (s : State) (r : Reg) (v : Word) : Writes s (s.setReg r v) := .single (.reg r v)

theorem Writes.pc (s : State) (v : Word) : Writes s (s.branchTo v) := .single (.pc v)

theorem Writes.writeReg (s : State) (r : Reg) (v : Word) : Writes s (s.writeReg r v) := by
  obtain ⟨_, h⟩ | ⟨_, h⟩ := s.writeReg_eq r v <;> rw [h]
  · exact .pc s v
  · exact .reg s r v

theorem Writes.writeHi (s : State) (r : Reg) (v : Word) : Writes s (s.writeHi r v) := by
  unfold State.writeHi
  split
  · exact .pc s _
  · exact .reg s r v

theorem Writes.writeBack (s : State) (rn : Reg) (x : Transfer) : Writes s (s.writeBack rn x) := by
  unfold State.writeBack
  split
  · exact .reg s rn _
  · exact .refl

theorem Writes.blockBase (s : State) (w : Bool) (rn : Reg) (rlist : BitVec 16) (final : Word) :
    Writes s (s.blockBase w rn rlist final) := by
  unfold State.blockBase
  split
  · exact .reg s rn _
  · exact .refl

theorem Writes.blockPc (s : State) (rlist : BitVec 16) (a : Word) : Writes s (s.blockPc rlist a) := by
  unfold State.blockPc
  split
  · exact .pc s _
  · exact .refl

theorem Writes.branchIf (s : State) (c : Cond) (imm8 : BitVec 8) : Writes s (s.branchIf c imm8) := by
  unfold State.branchIf
  split
  · exact .pc s _
  · exact .refl

theorem Writes.storeWord {s t : State} {ea v : Word} (h : s.storeWord ea v = some t) : Writes s t :=
  .single (.bus (.word _ _ h))

theorem Writes.storeHalf {s t : State} {ea v : Word} (h : s.storeHalf ea v = some t) : Writes s t :=
  .single (.bus (.half _ _ h))

theorem Writes.storeByte {s t : State} {ea v : Word} (h : s.storeByte ea v = some t) : Writes s t :=
  .single (.bus (.byte _ _ h))

/-- The loads of LDM and POP write registers (45 R273). -/
theorem Writes.ldmLoads (st : State) (p u : Bool) (rn : Reg) (rlist : BitVec 16) :
    Writes st (st.ldmLoads State.setReg p u rn rlist).state :=
  State.loadBlock_kept (P := Writes st) (fun _ r v _ h => h.tail (.reg r v)) _ _ _ .refl

/-- The loads of LDM of the user bank write User-mode registers (45 R276). -/
theorem Writes.ldmUserLoads (st : State) (p u : Bool) (rn : Reg) (rlist : BitVec 16) :
    Writes st (st.ldmLoads State.setUsrReg p u rn rlist).state :=
  State.loadBlock_kept (P := Writes st) (fun _ r v _ h => h.tail (.usrReg r v)) _ _ _ .refl

theorem Writes.stmStores (st : State) (read : Reg → Word) (p u w : Bool) (rn : Reg) (rlist : BitVec 16) :
    Writes st (st.stmStores read p u w rn rlist).state :=
  State.storeBlock_kept (P := Writes st) (fun _ _ _ _ h hs => h.tail (.bus (.word _ _ hs))) _ _ .refl

/-! ## The endings -/

/-- BX, in either width. -/
def IsExchange (i : Instr) : Prop := (∃ c rm, i = .bx c rm) ∨ ∃ h2 rs sbz, i = .tBx h2 rs sbz

/-- The endings of an instruction `i` that ran in `st` and answered a next state. -/
inductive Ended (i : Instr) (st : State) : State → Prop where
  /-- Nothing but writes. -/
  | wrote {t : State} (h : Writes st t) : Ended i st t
  /-- The flags set, after the writes. -/
  | flagged {u : State} (h : Writes st u) (n z c v : Bool) : Ended i st (u.setFlags n z c v)
  /-- An exception taken (46 R294 to R301, 60 R431); a block transfer cut short has written before it (45 R279). -/
  | trapped {u : State} {e : Exc} (h : Writes st u) (he : e = .undefined ∨ e = .swi ∨ e = .dataAbort) :
    Ended i st (u.enter e)
  /-- BX: the width flag, then the PC (41 R184, 47 R343). -/
  | exchanged (hi : IsExchange i) (narrow : Bool) (a : Word) :
    Ended i st ((st.loadStatus { st.cpsr with t := narrow }).branchTo a)
  /-- SPSR copied to CPSR, then the PC (42 R198, 45 R277). -/
  | returned {u : State} {new : Status} (h : Writes st u) (hm : st.cpsr.mode.hasSpsr = true)
    (hs : st.spsr.toStatus = some new) (a : Word) : Ended i st ((u.loadStatus new).branchTo a)
  /-- MSR to CPSR (46 R292, R293). -/
  | cpsrWritten {fmask : BitVec 4} {v : Word} {p : Status}
    (hp : (mergeStatus st.cpsr.toSaved (st.cpsrMask fmask) v).toStatus = some p) (ht : p.t = st.cpsr.t) :
    Ended i st (st.loadStatus p)
  /-- MSR to SPSR (46 R292). -/
  | spsrWritten (hm : st.cpsr.mode.hasSpsr = true) (q : Saved) : Ended i st { st with spsr := q }

/-- Where `o` is a next state, it is one in which `i` may end. -/
def Ends (i : Instr) (st : State) (o : Outcome) : Prop := ∀ t, o = .next t → Ended i st t

section
variable {i : Instr}

theorem Ended.ends {st t : State} (h : Ended i st t) : Ends i st (.next t) := by
  intro u hu
  cases hu
  exact h

theorem ends_refused {st : State} (r : Refusal) : Ends i st (.refused r) := by
  intro t h
  cases h

theorem Writes.ends {st t : State} (h : Writes st t) : Ends i st (.next t) := (Ended.wrote h).ends

theorem Ended.dataAbort {st u : State} (h : Writes st u) : Ended i st (u.enter .dataAbort) :=
  .trapped h (.inr (.inr rfl))

theorem ends_swi (st : State) : Ends i st (.next (st.enter .swi)) := (Ended.trapped .refl (.inr (.inl rfl))).ends

theorem ends_undefined (st : State) : Ends i st (.next (st.enter .undefined)) := (Ended.trapped .refl (.inl rfl)).ends

/-- The body of a meaning under its condition and its operand check: skipped, refused or run. -/
theorem Ends.underCondition {st : State} {k : Outcome} (h : Ends i st k) (c : Option Cond) (u : Option Unpredictable) :
    Ends i st (st.underCondition c (guarded u k)) := by
  intro t ht
  obtain hc | hc := st.underCondition_cases c (guarded u k) <;> rw [hc] at ht
  · cases ht; exact .wrote .refl
  · exact h t (guarded_next.1 ht).2

theorem State.restoreStatus_ends {st u : State} (h : Writes st u) (a : Word) :
    Ends i st (u.restoreStatus fun r => .next (r.branchTo a)) := by
  obtain ⟨hc, hs⟩ := h.status
  obtain ⟨_, e⟩ | ⟨_, _, e⟩ | ⟨new, hm, hn, e⟩ := u.restoreStatus_cases fun r => .next (r.branchTo a) <;> rw [e]
  · exact ends_refused _
  · exact ends_refused _
  · exact (Ended.returned h (hc ▸ hm) (hs ▸ hn) a).ends

theorem State.dataProc_ends (st : State) (o : AluOp) (s : Bool) (rd : Reg) (op1 : Word) (op2 : Shifted) :
    Ends i st (st.dataProc o s rd op1 op2) := by
  intro t h
  obtain ⟨_, _, rfl⟩ | ⟨_, _, rfl⟩ | ⟨_, _, rfl⟩ | ⟨new, _, _, hm, hs, rfl⟩ := State.writeAlu_next h
  · exact .flagged (.reg st rd _) _ _ _ _
  · exact .wrote (.reg st rd _)
  · exact .wrote (.pc st _)
  · exact .returned .refl hm hs _

theorem State.compare_ends (st : State) (o : AluOp) (op1 : Word) (op2 : Shifted) : Ends i st (st.compare o op1 op2) :=
  (Ended.flagged .refl _ _ _ _).ends

theorem State.setAluFlags_ends (st : State) (x : Alu) : Ends i st (.next (st.setAluFlags x)) :=
  (Ended.flagged .refl _ _ _ _).ends

theorem State.aluLo_ends (st : State) (rd : LoReg) (x : Alu) : Ends i st (.next (st.aluLo rd x)) :=
  (Ended.flagged (.reg st _ _) _ _ _ _).ends

theorem State.setMulFlags_ends (st : State) (rd : Reg) (r : Word) :
    Ends i st (.next ((st.setReg rd r).setMulFlags r)) :=
  (Ended.flagged (.reg st rd r) _ _ _ _).ends

theorem State.writeMul_ends (st : State) (s : Bool) (rd : Reg) (r : Word) : Ends i st (st.writeMul s rd r) := by
  cases s with
  | true => exact st.setMulFlags_ends rd r
  | false => exact (Writes.reg st rd r).ends

theorem State.writeLong_ends (st : State) (s : Bool) (rdHi rdLo : Reg) (p : BitVec 64) :
    Ends i st (st.writeLong s rdHi rdLo p) := by
  have h := (Writes.reg st rdLo (p.extractLsb' 0 32)).tail (.reg rdHi (p.extractLsb' 32 32))
  cases s with
  | true => exact (Ended.flagged h _ _ _ _).ends
  | false => exact h.ends

theorem State.readSpsr_ends (st : State) (rd : Reg) : Ends i st (st.readSpsr rd) := by
  unfold State.readSpsr
  split
  · exact (Writes.reg st rd _).ends
  · exact ends_refused _

theorem State.writeCpsr_ends (st : State) (fmask : BitVec 4) (v : Word) : Ends i st (st.writeCpsr fmask v) := by
  unfold State.writeCpsr
  dsimp only
  split
  · exact ends_refused _
  · next ht =>
    split
    · next p hp =>
      have hpt : p.t = (mergeStatus st.cpsr.toSaved (st.cpsrMask fmask) v).t := by
        obtain ⟨mode, _, rfl⟩ := Option.map_eq_some_iff.1 hp
        rfl
      exact (Ended.cpsrWritten hp (hpt.trans (not_not.1 ht))).ends
    · exact ends_refused _

theorem State.writeSpsr_ends (st : State) (fmask : BitVec 4) (v : Word) : Ends i st (st.writeSpsr fmask v) := by
  unfold State.writeSpsr
  split
  · next hm => exact (Ended.spsrWritten hm _).ends
  · exact ends_refused _

theorem State.load_ends (st : State) (rn rd : Reg) (x : Transfer) (v : Option Word) :
    Ends i st (st.load rn rd x v) := by
  intro t h
  obtain ⟨_, rfl⟩ | ⟨w, _, rfl⟩ := State.load_next h
  · exact .dataAbort .refl
  · exact .wrote ((Writes.writeBack st rn x).trans (.writeReg _ rd w))

theorem State.store_ends {st : State} {v : Option State} (hv : ∀ s, v = some s → Writes st s) (rn : Reg)
    (x : Transfer) : Ends i st (st.store rn x v) := by
  intro t h
  obtain ⟨_, rfl⟩ | ⟨s, hs, rfl⟩ := State.store_next h
  · exact .dataAbort .refl
  · exact .wrote ((hv s hs).trans (.writeBack s rn x))

theorem State.loadLo_ends (st : State) (rd : LoReg) (v : Option Word) : Ends i st (st.loadLo rd v) := by
  intro t h
  obtain ⟨_, rfl⟩ | ⟨w, _, rfl⟩ := State.loadLo_next h
  · exact .dataAbort .refl
  · exact .wrote (.reg st _ w)

theorem State.storeLo_ends {st : State} {v : Option State} (hv : ∀ s, v = some s → Writes st s) :
    Ends i st (st.storeLo v) := by
  intro t h
  obtain ⟨_, rfl⟩ | hs := State.storeLo_next h
  · exact .dataAbort .refl
  · exact .wrote (hv t hs)

theorem State.swap_ends {st : State} {x : Option State} (hx : ∀ s, x = some s → Writes st s) (rd : Reg)
    (v : Option Word) : Ends i st (st.swap rd v x) := by
  intro t h
  obtain rfl | ⟨w, s, _, hs, rfl⟩ := State.swap_next h
  · exact .dataAbort .refl
  · exact .wrote ((hx s hs).tail (.reg rd w))

theorem Ends.halfwordGuard {st : State} {k : Outcome} (h : Ends i st k) (ea : Word) :
    Ends i st (st.halfwordGuard ea k) := fun t ht => h t (State.halfwordGuard_next.1 ht).2

/-- A block transfer cut short is a Data Abort after its writes (45 R279). -/
theorem Block.finish_ends {st : State} {b : Block} {k : State → Word → Outcome} (hb : Writes st b.state)
    (hk : ∀ a, Ends i st (k b.state a)) : Ends i st (b.finish k) := by
  intro t h
  obtain ⟨_, rfl⟩ | ⟨a, _, ha⟩ := Block.finish_next h
  · exact .dataAbort hb
  · exact hk a t ha

theorem State.loadMultiple_ends (st : State) (p u w : Bool) (rn : Reg) (rlist : BitVec 16) :
    Ends i st (st.loadMultiple p u w rn rlist) :=
  Block.finish_ends (.ldmLoads ..) fun _ =>
    ((Writes.ldmLoads ..).trans ((Writes.blockBase ..).trans (.blockPc ..))).ends

theorem State.storeMultiple_ends (st : State) (p u w : Bool) (rn : Reg) (rlist : BitVec 16) :
    Ends i st (st.storeMultiple p u w rn rlist) := by
  refine Block.finish_ends (.stmStores ..) fun _ => ?_
  cases w with
  | true => exact ((Writes.stmStores ..).tail (.reg ..)).ends
  | false => exact (Writes.stmStores ..).ends

theorem State.loadUser_ends (st : State) (p u : Bool) (rn : Reg) (rlist : BitVec 16) :
    Ends i st (st.loadUser p u rn rlist) :=
  Block.finish_ends (.ldmUserLoads ..) fun _ => (Writes.ldmUserLoads ..).ends

theorem State.storeUser_ends (st : State) (p u : Bool) (rn : Reg) (rlist : BitVec 16) :
    Ends i st (st.storeUser p u rn rlist) :=
  Block.finish_ends (.stmStores ..) fun _ => (Writes.stmStores ..).ends

theorem State.loadReturn_ends (st : State) (p u w : Bool) (rn : Reg) (rlist : BitVec 16) :
    Ends i st (st.loadReturn p u w rn rlist) := by
  unfold State.loadReturn
  split
  · exact Block.finish_ends (.ldmLoads ..) fun a =>
      State.restoreStatus_ends ((Writes.ldmLoads st p u rn rlist).trans (.blockBase ..)) a
  · exact ends_refused _

theorem State.pop_ends (st : State) (rlist : BitVec 16) : Ends i st (st.pop rlist) :=
  Block.finish_ends (.ldmLoads ..) fun _ => (((Writes.ldmLoads ..).tail (.reg ..)).trans (.blockPc ..)).ends

theorem State.exchange_ends (hi : IsExchange i) (st : State) (v : Word) : Ends i st (.next (st.exchange v)) :=
  (Ended.exchanged hi _ _).ends

end

/-! ## Every instruction -/

/-- Every instruction is, under its own condition and its own operand check, a body with one of the endings. -/
theorem exec_body_ends (i : Instr) (st : State) :
    ∃ k, Ends i st k ∧ exec i st = st.underCondition (condOf i) (guarded i.unpredictable k) := by
  cases i
  -- flags alone
  case tstImm | tstRegIs | tstRegRs | teqImm | teqRegIs | teqRegRs | cmpImm | cmpRegIs | cmpRegRs | cmnImm | cmnRegIs
      | cmnRegRs => exact ⟨_, st.compare_ends _ _ _, rfl⟩
  case tCmpImm8 | tTst | tCmpReg | tCmn | tCmpHi => exact ⟨_, st.setAluFlags_ends _, rfl⟩
  -- arithmetic and logic
  case tMul => exact ⟨_, st.setMulFlags_ends _ _, rfl⟩
  case mul | mla => exact ⟨_, st.writeMul_ends _ _ _, rfl⟩
  case umull | umlal | smull | smlal => exact ⟨_, st.writeLong_ends _ _ _ _, rfl⟩
  case tAddHi | tMovHi => exact ⟨_, (Writes.writeHi st _ _).ends, rfl⟩
  case mrsCpsr | tAddPc | tAddSp | tAddSpimm | tSubSpimm | tBlHi => exact ⟨_, (Writes.reg st _ _).ends, rfl⟩
  case tLslImm | tLsrImm | tAsrImm | tAddReg | tSubReg | tAddImm3 | tSubImm3 | tMovImm8 | tAddImm8 | tSubImm8 | tAnd
      | tEor | tLslReg | tLsrReg | tAsrReg | tAdc | tSbc | tRor | tNeg | tOrr | tBic | tMvn =>
    exact ⟨_, st.aluLo_ends _ _, rfl⟩
  -- status transfers and exceptions
  case mrsSpsr => exact ⟨_, st.readSpsr_ends _, rfl⟩
  case msrRegCpsr | msrImmCpsr => exact ⟨_, st.writeCpsr_ends _ _, rfl⟩
  case msrRegSpsr | msrImmSpsr => exact ⟨_, st.writeSpsr_ends _ _, rfl⟩
  case swi | tSwi => exact ⟨_, ends_swi st, rfl⟩
  case und | cdp | ldc | stc | mcr | mrc => exact ⟨_, ends_undefined st, rfl⟩
  -- branches
  case bx c rm => exact ⟨_, st.exchange_ends (.inl ⟨c, rm, rfl⟩) _, rfl⟩
  case tBx h2 rs sbz => exact ⟨_, st.exchange_ends (.inr ⟨h2, rs, sbz, rfl⟩) _, rfl⟩
  case b | tB => exact ⟨_, (Writes.pc st _).ends, rfl⟩
  case bl => exact ⟨_, ((Writes.reg st _ _).tail (.pc _)).ends, rfl⟩
  case tBlLo => exact ⟨_, ((Writes.pc st _).tail (.reg _ _)).ends, rfl⟩
  case tBeq | tBne | tBcs | tBcc | tBmi | tBpl | tBvs | tBvc | tBhi | tBls | tBge | tBlt | tBgt | tBle =>
    exact ⟨_, (Writes.branchIf st _ _).ends, rfl⟩
  -- loads, stores and swaps
  case ldrImmPre | ldrImmPost | ldrtImm | ldrRegPre | ldrRegPost | ldrtReg | ldrbImmPre | ldrbImmPost | ldrbtImm
      | ldrbRegPre | ldrbRegPost | ldrbtReg | ldrsbImm | ldrsbReg => exact ⟨_, st.load_ends _ _ _ _, rfl⟩
  case ldrhImm | ldrhReg | ldrshImm | ldrshReg => exact ⟨_, (st.load_ends _ _ _ _).halfwordGuard _, rfl⟩
  case strImmPre | strImmPost | strtImm | strRegPre | strRegPost | strtReg =>
    exact ⟨_, State.store_ends (fun _ => Writes.storeWord) _ _, rfl⟩
  case strbImmPre | strbImmPost | strbtImm | strbRegPre | strbRegPost | strbtReg =>
    exact ⟨_, State.store_ends (fun _ => Writes.storeByte) _ _, rfl⟩
  case strhImm | strhReg => exact ⟨_, State.store_ends (fun _ => Writes.storeHalf) _ _, rfl⟩
  case tLdrPc | tLdrImm | tLdrReg | tLdrSp | tLdrbImm | tLdrbReg | tLdsbReg => exact ⟨_, st.loadLo_ends _ _, rfl⟩
  case tLdrhImm | tLdrhReg | tLdshReg => exact ⟨_, (st.loadLo_ends _ _).halfwordGuard _, rfl⟩
  case tStrImm | tStrReg | tStrSp => exact ⟨_, State.storeLo_ends fun _ => Writes.storeWord, rfl⟩
  case tStrbImm | tStrbReg => exact ⟨_, State.storeLo_ends fun _ => Writes.storeByte, rfl⟩
  case tStrhImm | tStrhReg => exact ⟨_, State.storeLo_ends fun _ => Writes.storeHalf, rfl⟩
  case swp => exact ⟨_, State.swap_ends (fun _ => Writes.storeWord) _ _, rfl⟩
  case swpb => exact ⟨_, State.swap_ends (fun _ => Writes.storeByte) _ _, rfl⟩
  -- block transfers
  case ldm | tLdmia => exact ⟨_, st.loadMultiple_ends _ _ _ _ _, rfl⟩
  case stm | tStmia | tPush => exact ⟨_, st.storeMultiple_ends _ _ _ _ _, rfl⟩
  case ldmUser => exact ⟨_, st.loadUser_ends _ _ _ _, rfl⟩
  case stmUser => exact ⟨_, st.storeUser_ends _ _ _ _, rfl⟩
  case ldmCpsr => exact ⟨_, st.loadReturn_ends _ _ _ _ _, rfl⟩
  case tPop => exact ⟨_, st.pop_ends _, rfl⟩
  -- wide data processing with a destination
  all_goals exact ⟨_, st.dataProc_ends _ _ _ _ _, rfl⟩

/-- An instruction that answers a next state has one of the seven endings. -/
theorem exec_ended {i : Instr} {st t : State} (h : exec i st = .next t) : Ended i st t := by
  obtain ⟨k, hk, he⟩ := exec_body_ends i st
  exact hk.underCondition (condOf i) i.unpredictable t (he ▸ h)

end Sys2Proof.Machine
end

section
/-! PROOF. User mode is confined (10_state R24, R25, R40, 60 R460, R461). -/

namespace Sys2Proof.Machine

/-! ## Writes in User mode -/

/-- Where the User bank is current, a write leaves bank storage alone (10_state R24, R25). -/
theorem Write.banks {s t : State} (h : Write s t) (hb : s.cpsr.mode.bank = .usr) : t.banks = s.banks := by
  cases h with
  | reg r v => rfl
  | usrReg r v =>
    obtain h | ⟨hn, _⟩ := s.setUsrReg_cases r v
    · rw [h]; rfl
    · exact absurd hb hn
  | pc v => rfl
  | bus h =>
    obtain ⟨_, _, _, hk, _⟩ := h.effect.core
    exact hk

theorem Writes.banks {s t : State} (h : Writes s t) (hb : s.cpsr.mode.bank = .usr) : t.banks = s.banks :=
  (h.kept (P := fun u => u.cpsr = s.cpsr ∧ u.banks = s.banks)
    (fun _ _ hw hs => ⟨hw.status.1.trans hs.1, (hw.banks (hs.1 ▸ hb)).trans hs.2⟩) ⟨rfl, rfl⟩).2

/-! ## Leaving User mode -/

/-- The banked registers of every mode but User and System are as before. -/
def OtherBanksKept (b b' : Banks) : Prop :=
  (∀ k, k ≠ .usr → b'.spLr k = b.spLr k ∧ b'.spsr k = b.spsr k) ∧ b'.fiqHi = b.fiqHi

theorem OtherBanksKept.of_eq {b b' : Banks} (h : b' = b) : OtherBanksKept b b' := h ▸ ⟨fun _ _ => ⟨rfl, rfl⟩, rfl⟩

/-- Saving the User bank writes r13, r14 and r8 to r12 of User mode alone (10_state R40). -/
theorem State.saveBank_usr_otherBanks (s : State) (nb : Bank) : OtherBanksKept s.banks (s.saveBank .usr nb).banks := by
  constructor
  · intro k hk
    cases k with
    | usr => exact absurd rfl hk
    | fiq | irq | svc | abt | und => cases nb <;> exact ⟨rfl, rfl⟩
  · cases nb <;> rfl

theorem State.enter_banks (s : State) (e : Exc) : (s.enter e).banks = (s.loadStatus (s.handlerStatus e)).banks := rfl

/-- An exception taken in User mode leaves the registers of the other modes in their banks (10_state R40). -/
theorem State.enter_otherBanks (s : State) (e : Exc) (hb : s.cpsr.mode.bank = .usr) :
    OtherBanksKept s.banks (s.enter e).banks := by
  rw [State.enter_banks, State.loadStatus_banks, hb]
  split
  · exact .of_eq rfl
  · exact s.saveBank_usr_otherBanks _

/-! ## MSR in User mode -/

/-- The interrupt masks and the mode of a status word in its 32 bits (10_state R36). -/
theorem Saved.toWord_control (q : Saved) :
    q.toWord.getLsbD 7 = q.i ∧ q.toWord.getLsbD 6 = q.f ∧ q.toWord.extractLsb' 0 5 = q.m := by
  refine ⟨?_, ?_, BitVec.extractLsb'_append_eq_right⟩
  · simp [Saved.toWord, -BitVec.getLsbD_eq_getElem, BitVec.getLsbD_append (n := 27) (m := 5),
      BitVec.getLsbD_append (n := 26) (m := 1), BitVec.getLsbD_append (n := 25) (m := 1),
      BitVec.getLsbD_append (n := 24) (m := 1)]
  · simp [Saved.toWord, -BitVec.getLsbD_eq_getElem, BitVec.getLsbD_append (n := 27) (m := 5),
      BitVec.getLsbD_append (n := 26) (m := 1), BitVec.getLsbD_append (n := 25) (m := 1)]

theorem getLsbD_masked {mask : Word} {k : Nat} (hm : mask.getLsbD k = false) (old v : Word) (hk : k < 32) :
    ((old &&& ~~~mask) ||| (v &&& mask)).getLsbD k = old.getLsbD k := by
  rw [BitVec.getLsbD_or, BitVec.getLsbD_and, BitVec.getLsbD_and, BitVec.getLsbD_not, hm]
  simp [hk]

/-- The control bits of a status word that MSR leaves alone where its mask selects none of the low byte (46 R291). -/
theorem mergeStatus_control (q : Saved) {mask : Word} (v : Word) (hm : ∀ k < 8, mask.getLsbD k = false) :
    (mergeStatus q mask v).i = q.i ∧ (mergeStatus q mask v).f = q.f ∧ (mergeStatus q mask v).m = q.m := by
  obtain ⟨hi, hf, hmode⟩ := q.toWord_control
  refine ⟨(getLsbD_masked (hm 7 (by decide)) _ v (by decide)).trans hi,
    (getLsbD_masked (hm 6 (by decide)) _ v (by decide)).trans hf, ?_⟩
  rw [← hmode]
  ext k hk
  simp only [mergeStatus, Saved.ofWord, BitVec.getElem_extractLsb', Nat.zero_add]
  exact getLsbD_masked (hm k (by omega)) _ v (by omega)

/-- In User mode MSR writes the flags alone (46 R292). -/
theorem State.cpsrMask_user {st : State} (hu : st.cpsr.mode = .user) (fmask : BitVec 4) (k : Nat) (hk : k < 8) :
    (st.cpsrMask fmask).getLsbD k = false := by
  have h : (0xF0000000 : Word).getLsbD k = false := by interval_cases k <;> rfl
  rw [State.cpsrMask, if_pos hu, BitVec.getLsbD_and, h, Bool.and_false]

/-- A status word read back has the masks and the mode of its saved form (10_state R36, R42). -/
theorem Saved.toStatus_fields {q : Saved} {p : Status} (h : q.toStatus = some p) :
    p.i = q.i ∧ p.f = q.f ∧ p.t = q.t ∧ Mode.ofBits q.m = some p.mode := by
  obtain ⟨mode, hm, rfl⟩ := Option.map_eq_some_iff.1 h
  exact ⟨rfl, rfl, rfl, hm⟩

/-- MSR in User mode changes neither the mode nor an interrupt mask (46 R292, 60 R460). -/
theorem State.msr_user_control {st : State} (hu : st.cpsr.mode = .user) {fmask : BitVec 4} {v : Word} {p : Status}
    (hp : (mergeStatus st.cpsr.toSaved (st.cpsrMask fmask) v).toStatus = some p) :
    p.mode = .user ∧ p.i = st.cpsr.i ∧ p.f = st.cpsr.f := by
  obtain ⟨hi, hf, hm⟩ := mergeStatus_control st.cpsr.toSaved v (State.cpsrMask_user hu fmask)
  obtain ⟨hpi, hpf, _, hpm⟩ := Saved.toStatus_fields hp
  rw [hm] at hpm
  have hmode : some st.cpsr.mode = some p.mode := (Mode.ofBits_bits _).symm.trans hpm
  exact ⟨(Option.some.inj hmode).symm.trans hu, hpi.trans hi, hpf.trans hf⟩

/-! ## Every ending -/

/-- The instruction stayed in User mode with both interrupt masks unchanged (60 R460). -/
def StaysUser (st t : State) : Prop := t.cpsr.mode = .user ∧ t.cpsr.i = st.cpsr.i ∧ t.cpsr.f = st.cpsr.f

/-- The instruction took an exception: the old status saved, the PC at the vector (60 R461). -/
def TookException (st t : State) : Prop :=
  ∃ e, (e = .undefined ∨ e = .swi ∨ e = .dataAbort) ∧ t.cpsr = st.handlerStatus e ∧ t.spsr = st.cpsr.toSaved ∧
    t.reg 15 = e.vector ∧ t.redirected = true

/-- An entry after writes saves the status word from before them. -/
theorem Writes.tookException {st u : State} (h : Writes st u) {e : Exc}
    (he : e = .undefined ∨ e = .swi ∨ e = .dataAbort) : TookException st (u.enter e) := by
  obtain ⟨hc, hs, hr, _⟩ := u.enter_frame e
  refine ⟨e, he, ?_, ?_, u.enter_pc e, hr⟩
  · rw [hc, State.handlerStatus, h.status.1]; rfl
  · rw [hs, ← h.status.1]
    obtain rfl | rfl | rfl := he <;> rfl

/-- `load_status` to a word of User mode in User mode moves no bank. -/
theorem State.loadStatus_user_banks {st : State} (hb : st.cpsr.mode.bank = .usr) {p : Status}
    (hp : p.mode.bank = .usr) : (st.loadStatus p).banks = st.banks := by
  rw [State.loadStatus_banks, if_pos (hb.trans hp.symm)]

/-- What an instruction that runs in User mode can do to the mode, the masks and the banks. -/
theorem Ended.confined {i : Instr} {st t : State} (hu : st.cpsr.mode = .user) (h : Ended i st t) :
    (StaysUser st t ∨ TookException st t) ∧ OtherBanksKept st.banks t.banks := by
  have hb : st.cpsr.mode.bank = .usr := by rw [hu]; rfl
  have hs : st.cpsr.mode.hasSpsr = false := by rw [hu]; rfl
  cases h with
  | wrote h =>
    obtain ⟨hc, _⟩ := h.status
    exact ⟨.inl ⟨hc ▸ hu, by rw [hc], by rw [hc]⟩, .of_eq (h.banks hb)⟩
  | flagged h n z c v =>
    obtain ⟨hc, _⟩ := h.status
    refine ⟨.inl ⟨?_, ?_, ?_⟩, .of_eq (h.banks hb)⟩ <;> rw [State.setFlags_cpsr, hc]
    exact hu
  | @trapped u e h he =>
    obtain ⟨hc, _⟩ := h.status
    exact ⟨.inr (h.tookException he), h.banks hb ▸ u.enter_otherBanks e (hc ▸ hb)⟩
  | exchanged _ narrow a =>
    exact ⟨.inl (by simp [StaysUser, hu]), .of_eq (State.loadStatus_user_banks hb hb)⟩
  | returned _ hm => exact absurd (hs.symm.trans hm) (by decide)
  | cpsrWritten hp _ =>
    obtain ⟨hm, hi, hf⟩ := State.msr_user_control hu hp
    refine ⟨.inl ?_, .of_eq (State.loadStatus_user_banks hb (by rw [hm]; rfl))⟩
    rw [StaysUser, State.loadStatus_cpsr]
    exact ⟨hm, hi, hf⟩
  | spsrWritten hm => exact absurd (hs.symm.trans hm) (by decide)

/-- Settles O51: each of the seven endings of an instruction either keeps User mode and its masks or is an exception
entry, and neither writes a bank cell of another mode. -/
theorem userModeIsConfined : Obligations.UserModeIsConfined := by
  intro i st t hu h
  obtain ⟨hc, hk, hf⟩ := (exec_ended h).confined hu
  exact ⟨hc, hk, hf⟩

end Sys2Proof.Machine
end

section
/-! PROOF. The devices keep their part of the invariant: an active channel is enabled, a sleeping machine has no reason
to wake, and every timer's overflow cycle fits its mode (10_state R56, 60 R451, R472, R488, R489). -/

namespace Sys2Proof.Machine

/-! ## The devices' part of the invariant -/

/-- Every prescaler counts at least one cycle (log entry 18). -/
abbrev PositivePrescalers (p : Params) : Prop := ∀ k : Fin 4, 1 ≤ p.prescaler[k]

/-- The timers, the DMA channels and the power state are as the invariant wants them. -/
structure Devices.Ok (p : Params) (d : Devices) : Prop where
  timers : ∀ t : Fin 4, (d.timers[t]).consistent p d.now t = true
  dma : ∀ ch : Fin 4, (d.dma[ch]).active = true → (d.dma[ch]).ctrl.enable = true
  rested : d.restful p = true

theorem Devices.setTimer_timers (d : Devices) (t u : Fin 4) (ch : TimerChannel) :
    (d.setTimer t ch).timers[u] = if u = t then ch else d.timers[u] := by
  simp only [Devices.setTimer, Fin.getElem_fin, Vector.getElem_set, Fin.val_inj, eq_comm]

theorem Devices.setDma_dma (d : Devices) (ch k : Fin 4) (c : DmaChannel) :
    (d.setDma ch c).dma[k] = if k = ch then c else d.dma[k] := by
  simp only [Devices.setDma, Fin.getElem_fin, Vector.getElem_set, Fin.val_inj, eq_comm]

theorem Devices.Ok.setTimer {p : Params} {d : Devices} (h : d.Ok p) {t : Fin 4} {ch : TimerChannel}
    (hc : ch.consistent p d.now t = true) : (d.setTimer t ch).Ok p where
  timers u := by
    rw [Devices.setTimer_timers]
    split
    · next hu => exact hu ▸ hc
    · exact h.timers u
  dma := h.dma
  rested := h.rested

theorem Devices.Ok.setDma {p : Params} {d : Devices} (h : d.Ok p) (ch : Fin 4) {c : DmaChannel}
    (hc : c.active = true → c.ctrl.enable = true) : (d.setDma ch c).Ok p where
  timers := h.timers
  dma k := by
    rw [Devices.setDma_dma]
    split
    · exact hc
    · exact h.dma k
  rested := h.rested

/-! ## Waking and sleeping -/

/-- `wake_check()` changes the power state alone. -/
theorem Devices.wakeCheck_eq (p : Params) (d : Devices) : ∃ w, Devices.wakeCheck p d = { d with power := w } := by
  unfold Devices.wakeCheck
  dsimp only
  split
  · exact ⟨d.power, rfl⟩
  · split
    · exact ⟨.run, rfl⟩
    · exact ⟨d.power, rfl⟩
  · split
    · exact ⟨.run, rfl⟩
    · exact ⟨d.power, rfl⟩

/-- After `wake_check()` a sleeping machine has no reason to wake (60 R451). -/
theorem Devices.wakeCheck_restful (p : Params) (d : Devices) : (Devices.wakeCheck p d).restful p = true := by
  cases hw : d.power with
  | run => simp [Devices.wakeCheck, Devices.restful, hw]
  | halt =>
    simp only [Devices.wakeCheck, hw]
    split
    · rfl
    · next h => simp only [Devices.restful, hw, Bool.eq_false_of_not_eq_true h, Bool.not_false]
  | stop =>
    simp only [Devices.wakeCheck, hw]
    split
    · rfl
    · next h => simp only [Devices.restful, hw, Bool.eq_false_of_not_eq_true h, Bool.not_false]

/-- `wake_check()` after a change that the timers and the DMA channels do not see. -/
theorem Devices.Ok.wakeCheck {p : Params} {d d' : Devices} (h : d.Ok p) (ht : d'.timers = d.timers)
    (hn : d'.now = d.now) (hd : d'.dma = d.dma) : (Devices.wakeCheck p d').Ok p := by
  refine ⟨?_, ?_, Devices.wakeCheck_restful p d'⟩ <;> obtain ⟨w, hw⟩ := Devices.wakeCheck_eq p d' <;> rw [hw]
  · simpa only [ht, hn] using h.timers
  · simpa only [hd] using h.dma

theorem Devices.Ok.raise {p : Params} {d : Devices} (h : d.Ok p) (source : Nat) : (Devices.raise p source d).Ok p :=
  h.wakeCheck rfl rfl rfl

/-- Halt and Stop begin only where no enabled source is pending (60 R450). -/
theorem Devices.Ok.haltControl {p : Params} {d : Devices} (h : d.Ok p) (v : Byte) : (Devices.haltControl v d).Ok p := by
  unfold Devices.haltControl
  split
  · exact h
  · next hp =>
    have hz : d.enabled &&& d.pending = 0 := by simpa [Devices.anyPending] using hp
    refine ⟨h.timers, h.dma, ?_⟩
    cases v.getLsbD 7 <;> simp [Devices.restful, Devices.anyPending, hz]

/-! ## DMA registers and triggers -/

theorem DmaChannel.evaluateTrigger_enabled {c : DmaChannel} (hc : c.active = true → c.ctrl.enable = true) :
    c.evaluateTrigger.active = true → c.evaluateTrigger.ctrl.enable = true := by
  unfold DmaChannel.evaluateTrigger
  split
  · next h =>
    intro _
    exact (Bool.and_eq_true_iff.1 h).1
  · exact hc

/-- A store to CTRL leaves an active channel only where the new word enables it (60 R472). -/
theorem DmaChannel.withControl_enabled (p : Params) (ch : Fin 4) (c : DmaChannel) (ctrl : DmaControl) :
    (c.withControl p ch ctrl).active = true → (c.withControl p ch ctrl).ctrl.enable = true := by
  refine DmaChannel.evaluateTrigger_enabled ?_
  cases he : ctrl.enable with
  | true =>
    simp only [if_true]
    split <;> exact fun _ => he
  | false =>
    simp only [Bool.false_eq_true, if_false]
    exact fun h => absurd h (by decide)

/-- A channel that has completed is inactive (60 R478). -/
theorem DmaChannel.completed_inactive (p : Params) (ch : Fin 4) (c : DmaChannel) :
    (c.completed p ch).active = false := by
  unfold DmaChannel.completed
  split <;> rfl

theorem Devices.Ok.complete {p : Params} {d : Devices} (h : d.Ok p) (ch : Fin 4) : (Devices.complete p ch d).Ok p := by
  have hd : (d.setDma ch ((d.dma[ch]).completed p ch)).Ok p :=
    h.setDma ch fun ha => absurd ((DmaChannel.completed_inactive p ch _).symm.trans ha) (by decide)
  unfold Devices.complete
  dsimp only
  split
  · exact hd.raise _
  · exact hd

/-- A trigger arms enabled channels alone (60 R474). -/
theorem Devices.Ok.arm {p : Params} {d : Devices} (h : d.Ok p) (t : Trigger) (ch : Fin 4) : (d.arm t ch).Ok p := by
  unfold Devices.arm
  split
  · next ha => exact h.setDma ch fun _ => (Bool.and_eq_true_iff.1 ha).1
  · exact h

theorem Devices.Ok.armAll {p : Params} {d : Devices} (h : d.Ok p) (t : Trigger) : (d.armAll t).Ok p :=
  ((h.arm t 0).arm t 1 |>.arm t 2).arm t 3

theorem Devices.Ok.signalHblank {p : Params} {d : Devices} (h : d.Ok p) (line : Nat) :
    (Devices.signalHblank p line d).Ok p := by
  unfold Devices.signalHblank
  dsimp only
  split
  · exact (h.armAll .hblank).arm .special 3
  · exact h.armAll .hblank

theorem Devices.Ok.fifoRefresh {p : Params} {d : Devices} (h : d.Ok p) (ch : Fin 4) :
    (Devices.fifoRefresh ch d).Ok p := by
  unfold Devices.fifoRefresh
  split
  · exact h.arm .special ch
  · exact h

/-! ## The schedule of the timers -/

/-- What the overflow of channel `t` depends on: its control word and its overflow cycle. -/
def Devices.schedule (d : Devices) (t : Fin 4) : TimerControl × Option Nat :=
  (d.timers[t].control, d.timers[t].overflowAt)

/-- There is an overflow cycle exactly while the channel is started and free-running (10_state R56), by at most one
whole count after `hi` (60 R489). -/
def Scheduled (p : Params) (hi : Nat) (t : Fin 4) (x : TimerControl × Option Nat) : Prop :=
  (x.2.isSome ↔ x.1.start && freeRunning t x.1) ∧ ∀ o, x.2 = some o → o ≤ hi + x.1.cycles p * 0x10000

/-- Consistency is being scheduled, and ahead of `now`. -/
theorem TimerChannel.consistent_iff (p : Params) (now : Nat) (t : Fin 4) (ch : TimerChannel) :
    ch.consistent p now t = true ↔
      Scheduled p now t (ch.control, ch.overflowAt) ∧ ∀ o, ch.overflowAt = some o → now < o := by
  cases ho : ch.overflowAt with
  | none => simp [TimerChannel.consistent, Scheduled, ho, imp_iff_not_or]
  | some o =>
    simp only [TimerChannel.consistent, Scheduled, ho, Bool.and_eq_true, decide_eq_true_eq, Option.isSome_some,
      Option.some.injEq, forall_eq', true_iff]
    tauto

theorem TimerControl.cycles_pos {p : Params} (hp : PositivePrescalers p) (c : TimerControl) : 1 ≤ c.cycles p :=
  hp ⟨c.prescaler.toNat, c.prescaler.isLt⟩

/-- An overflow falls due after at least one cycle and at most one whole count (60 R488, R489). -/
theorem overflowCycle_bounds {p : Params} (hp : PositivePrescalers p) (at' : Nat) (c : TimerControl)
    (counter : Half) :
    at' < overflowCycle p at' c counter ∧ overflowCycle p at' c counter ≤ at' + c.cycles p * 0x10000 := by
  have hc : 1 ≤ c.cycles p := c.cycles_pos hp
  have hk : 1 ≤ 0x10000 - counter.toNat := by have := counter.isLt; omega
  exact ⟨Nat.lt_add_of_pos_right (Nat.mul_pos hc hk), Nat.add_le_add_left (Nat.mul_le_mul_left _ (Nat.sub_le _ _)) _⟩

/-- A store to the control word schedules the channel anew from `now` (60 R485). -/
theorem TimerChannel.withControl_consistent {p : Params} (hp : PositivePrescalers p) (now : Nat) (t : Fin 4)
    (ch : TimerChannel) (c : TimerControl) : (ch.withControl p now t c).consistent p now t = true := by
  unfold TimerChannel.withControl
  dsimp only
  generalize (if !ch.control.start && c.start then ch.reload else _) = counter
  rw [TimerChannel.consistent_iff]
  dsimp only
  obtain ⟨hlt, hle⟩ := overflowCycle_bounds hp now c counter
  split
  · next hr =>
    refine ⟨⟨iff_of_true rfl hr, fun o ho => ?_⟩, fun o ho => ?_⟩ <;> cases ho
    · exact hle
    · exact hlt
  · next hr =>
    refine ⟨⟨iff_of_false Bool.false_ne_true hr, fun o ho => ?_⟩, fun o ho => ?_⟩ <;> cases ho

theorem Devices.Ok.storeTimerControl {p : Params} (hp : PositivePrescalers p) {d : Devices} (h : d.Ok p)
    (t : Fin 4) (mask v : Half) : (d.storeTimerControl p t mask v).Ok p := by
  unfold Devices.storeTimerControl
  split
  · exact h.setTimer (TimerChannel.withControl_consistent hp _ _ _ _)
  · exact h

/-! ## Stores to the register blocks -/

theorem IoReg.store_ok {p : Params} (hp : PositivePrescalers p) (mask v : Half) (r : IoReg) {d : Devices}
    (h : d.Ok p) : (r.store p mask v d).Ok p := by
  cases r with
  | dmaSadLo ch | dmaSadHi ch | dmaDadLo ch | dmaDadHi ch | dmaCount ch => exact h.setDma ch (h.dma ch)
  | dmaControl ch => exact h.setDma ch (DmaChannel.withControl_enabled p ch _ _)
  | timerCounter t => exact h.setTimer (h.timers t)
  | timerControl t => exact h.storeTimerControl hp t mask v
  | interruptEnable | interruptFlags | masterEnable => exact h.wakeCheck rfl rfl rfl
  | waitControl => exact ⟨h.timers, h.dma, h.rested⟩
  | postHalt =>
    have hd : (if mask.getLsbD 0 then { d with postflg := v.extractLsb' 0 8 } else d).Ok p := by
      split
      · exact ⟨h.timers, h.dma, h.rested⟩
      · exact h
    simp only [IoReg.store]
    split
    · exact hd.haltControl _
    · exact hd
  | padding | unclaimed => exact h

theorem RegBlock.store8_ok {p : Params} (hp : PositivePrescalers p) (b : RegBlock) (off : Nat) (v : Byte)
    {d : Devices} (h : d.Ok p) : (b.store8 p off v d).Ok p := by
  unfold RegBlock.store8
  split <;> exact IoReg.store_ok hp _ _ _ h

theorem RegBlock.store16_ok {p : Params} (hp : PositivePrescalers p) (b : RegBlock) (off : Nat) (v : Half)
    {d : Devices} (h : d.Ok p) : (b.store16 p off v d).Ok p := IoReg.store_ok hp _ _ _ h

theorem RegBlock.store32_ok {p : Params} (hp : PositivePrescalers p) (b : RegBlock) (off : Nat) (v : Word)
    {d : Devices} (h : d.Ok p) : (b.store32 p off v d).Ok p :=
  b.store16_ok hp _ _ (b.store16_ok hp _ _ h)

end Sys2Proof.Machine
end

section
/-! PROOF. The timer step: an overflow moves its own channel on and no other one's overflow cycle, and every overflow
that falls due is performed (60 R488 to R493). -/

namespace Sys2Proof.Machine

/-! ## One overflow -/

theorem Devices.schedule_setTimer (d : Devices) (t : Fin 4) (ch : TimerChannel) :
    (d.setTimer t ch).schedule = Function.update d.schedule t (ch.control, ch.overflowAt) := by
  funext u
  by_cases h : u = t
  · subst h
    simp only [Devices.schedule, Devices.setTimer_timers, if_true, Function.update_self]
  · simp only [Devices.schedule, Devices.setTimer_timers, if_neg h, Function.update_of_ne h]

/-- A channel whose control word and overflow cycle stay leaves the schedule alone. -/
theorem Devices.schedule_setTimer_same (d : Devices) (t : Fin 4) {ch : TimerChannel}
    (h : (ch.control, ch.overflowAt) = d.schedule t) : (d.setTimer t ch).schedule = d.schedule := by
  rw [Devices.schedule_setTimer, h, Function.update_eq_self]

theorem Devices.raise_frame (p : Params) (source : Nat) (d : Devices) :
    (Devices.raise p source d).timers = d.timers ∧ (Devices.raise p source d).dma = d.dma ∧
      (Devices.raise p source d).restful p = true := by
  obtain ⟨w, hw⟩ := Devices.wakeCheck_eq p { d with pending := d.pending ||| BitVec.twoPow 14 source }
  refine ⟨?_, ?_, Devices.wakeCheck_restful p _⟩ <;> rw [Devices.raise, hw]

/-- The interrupt and the notice of an overflow touch no timer and no DMA channel, and may only wake the machine
(60 R492). -/
theorem Devices.announce_frame (p : Params) (t : Fin 4) (d : Devices) :
    (Devices.announce p t d).timers = d.timers ∧ (Devices.announce p t d).dma = d.dma ∧
      (d.restful p = true → (Devices.announce p t d).restful p = true) := by
  obtain ⟨ht, hd, hr⟩ := Devices.raise_frame p (3 + t.val) d
  unfold Devices.announce
  cases (d.timers[t]).control.irq with
  | true =>
    simp only [if_true]
    split <;> exact ⟨ht, hd, fun _ => hr⟩
  | false =>
    simp only [Bool.false_eq_true, if_false]
    split <;> exact ⟨rfl, rfl, id⟩

/-- A cascaded channel other than channel 0 is not free-running, so its reload schedules nothing (60 R485, R493). -/
theorem TimerChannel.reloaded_cascaded (p : Params) {u : Fin 4} (hu : u ≠ 0) (at' : Nat) {ch : TimerChannel}
    (hc : ch.cascades = true) : (ch.reloaded p u at').overflowAt = ch.overflowAt := by
  have hf : freeRunning u ch.control = false := by
    simp [freeRunning, hu, (Bool.and_eq_true_iff.1 hc).2]
  simp [TimerChannel.reloaded, hf]

/-- What announcing, counting and the reload of a cascaded channel keep, the rest of a chain of overflows keeps
(60 R491, R493). -/
theorem overflowChain_kept {P : Devices → Prop} {p : Params} {at' : Nat}
    (ha : ∀ d t, P d → P (Devices.announce p t d))
    (hc : ∀ d (u : Fin 4) c, P d → P (d.setTimer u { d.timers[u] with counter := c }))
    (hr : ∀ d (u : Fin 4), u ≠ 0 → (d.timers[u]).cascades = true → P d →
      P (d.setTimer u ((d.timers[u]).reloaded p u at')))
    (rest : List (Fin 4)) (h0 : ∀ u ∈ rest, u ≠ 0) (t : Fin 4) (d : Devices)
    (h : P (d.setTimer t ((d.timers[t]).reloaded p t at'))) : P (overflowChain p at' (t :: rest) d) := by
  induction rest generalizing t d with
  | nil => exact ha _ t h
  | cons u rest ih =>
    have hd := ha _ t h
    unfold overflowChain
    dsimp only
    generalize Devices.announce p t _ = e at hd
    split
    · next hcas =>
      have he := hc e u ((e.timers[u]).counter + 1) hd
      split
      · refine ih (fun v hv => h0 v (List.mem_cons_of_mem u hv)) u _ (hr _ u (h0 u List.mem_cons_self) ?_ he)
        rw [Devices.setTimer_timers, if_pos rfl]
        exact hcas
      · exact he
    · exact hd

/-- The channels from `t` on: `t`, and none of the others is channel 0. -/
theorem channels_drop (t : Fin 4) :
    channels.drop t.val = t :: channels.drop (t.val + 1) ∧ ∀ u ∈ channels.drop (t.val + 1), u ≠ 0 := by
  fin_cases t <;> decide

/-- The schedule after an overflow of channel `t` (60 R491). -/
def Devices.rescheduled (p : Params) (t : Fin 4) (at' : Nat) (d : Devices) : Fin 4 → TimerControl × Option Nat :=
  let ch := (d.timers[t]).reloaded p t at'
  Function.update d.schedule t (ch.control, ch.overflowAt)

/-- An overflow of channel `t` schedules it anew and leaves every other channel's schedule, and every DMA channel, as it
was; it may only wake the machine. -/
theorem Devices.overflow_frame (p : Params) (t : Fin 4) (at' : Nat) (d : Devices) :
    (Devices.overflow p t at' d).schedule = d.rescheduled p t at' ∧ (Devices.overflow p t at' d).dma = d.dma ∧
      (d.restful p = true → (Devices.overflow p t at' d).restful p = true) := by
  obtain ⟨hl, h0⟩ := channels_drop t
  rw [Devices.overflow, hl]
  refine overflowChain_kept (P := fun e => e.schedule = d.rescheduled p t at' ∧ e.dma = d.dma ∧
    (d.restful p = true → e.restful p = true)) ?_ ?_ ?_ _ h0 t d ⟨d.schedule_setTimer t _, rfl, id⟩
  · intro e u ⟨hs, hd, hr⟩
    obtain ⟨ht, hd', hr'⟩ := Devices.announce_frame p u e
    exact ⟨by rw [← hs]; funext v; simp only [Devices.schedule, ht], hd'.trans hd, hr' ∘ hr⟩
  · intro e u c ⟨hs, hd, hr⟩
    exact ⟨(e.schedule_setTimer_same u (ch := { e.timers[u] with counter := c }) rfl).trans hs, hd, hr⟩
  · intro e u hu hc ⟨hs, hd, hr⟩
    refine ⟨(e.schedule_setTimer_same u ?_).trans hs, hd, hr⟩
    rw [TimerChannel.reloaded_cascaded p hu at' hc]
    rfl

/-! ## Which overflow is next -/

/-- The overflow cycle in the schedule of a started free-running channel (60 R490). -/
def due (t : Fin 4) (x : TimerControl × Option Nat) : Option Nat := if x.1.start && freeRunning t x.1 then x.2 else none

theorem Devices.dueAt_eq (d : Devices) (t : Fin 4) : d.dueAt t = due t (d.schedule t) := rfl

theorem earlier_mem {a b : Option (Fin 4 × Nat)} {x : Fin 4 × Nat} (h : earlier a b = some x) :
    a = some x ∨ b = some x := by
  cases a with
  | none => exact .inr h
  | some y =>
    cases b with
    | none => exact .inl h
    | some z =>
      simp only [earlier] at h
      split at h
      · exact .inr h
      · exact .inl h

theorem earlier_le {a b : Option (Fin 4 × Nat)} {y : Fin 4 × Nat} (h : a = some y ∨ b = some y) :
    ∃ x, earlier a b = some x ∧ x.2 ≤ y.2 := by
  cases a with
  | none => exact ⟨y, by simpa [earlier] using h, le_rfl⟩
  | some v =>
    cases b with
    | none => exact ⟨y, by simpa [earlier] using h, le_rfl⟩
    | some w =>
      simp only [Option.some.injEq] at h
      simp only [earlier]
      split
      · exact ⟨w, rfl, by obtain rfl | rfl := h <;> omega⟩
      · exact ⟨v, rfl, by obtain rfl | rfl := h <;> omega⟩

/-- The earliest of the channels `l` by their cycles `f`, from a best one so far. -/
def earliestOf (f : Fin 4 → Option Nat) (l : List (Fin 4)) (best : Option (Fin 4 × Nat)) : Option (Fin 4 × Nat) :=
  l.foldl (fun best t => earlier best ((f t).map fun o => (t, o))) best

theorem Devices.nextDue_eq (d : Devices) : d.nextDue = earliestOf d.dueAt channels none := rfl

/-- What the search finds is the best one so far or a channel with its own cycle. -/
theorem earliestOf_mem {f : Fin 4 → Option Nat} {l : List (Fin 4)} {best : Option (Fin 4 × Nat)} {x : Fin 4 × Nat}
    (h : earliestOf f l best = some x) : best = some x ∨ f x.1 = some x.2 := by
  induction l generalizing best with
  | nil => exact .inl h
  | cons t l ih =>
    obtain hb | hf := ih h
    · obtain hb | hb := earlier_mem hb
      · exact .inl hb
      · obtain ⟨o, ho, rfl⟩ := Option.map_eq_some_iff.1 hb
        exact .inr ho
    · exact .inr hf

/-- The search finds nothing later than the best one so far or than any of its channels. -/
theorem earliestOf_le {f : Fin 4 → Option Nat} {l : List (Fin 4)} {best : Option (Fin 4 × Nat)} {y : Fin 4 × Nat}
    (h : best = some y ∨ (y.1 ∈ l ∧ f y.1 = some y.2)) : ∃ x, earliestOf f l best = some x ∧ x.2 ≤ y.2 := by
  induction l generalizing best y with
  | nil => exact ⟨y, by simpa [earliestOf] using h, le_rfl⟩
  | cons t l ih =>
    have hy : (best = some y ∨ (f t).map (fun o => (t, o)) = some y) ∨ (y.1 ∈ l ∧ f y.1 = some y.2) := by
      obtain hb | ⟨hmem, hf⟩ := h
      · exact .inl (.inl hb)
      · obtain rfl | hl := List.mem_cons.1 hmem
        · exact .inl (.inr (by rw [hf]; rfl))
        · exact .inr ⟨hl, hf⟩
    obtain hb | hl := hy
    · obtain ⟨z, hz, hzy⟩ := earlier_le hb
      obtain ⟨x, hx, hxz⟩ := ih (.inl hz)
      exact ⟨x, hx, hxz.trans hzy⟩
    · exact ih (.inr hl)

/-- The next overflow is one that its channel has due (60 R490). -/
theorem Devices.nextDue_due {d : Devices} {t : Fin 4} {o : Nat} (h : d.nextDue = some (t, o)) : d.dueAt t = some o := by
  obtain hb | hf := earliestOf_mem (d.nextDue_eq ▸ h)
  · cases hb
  · exact hf

/-- No channel's overflow is due before the next one (60 R490). -/
theorem Devices.nextDue_le {d : Devices} {u : Fin 4} {o : Nat} (h : d.dueAt u = some o) :
    ∃ x, d.nextDue = some x ∧ x.2 ≤ o := by
  have hu : u ∈ channels := by fin_cases u <;> decide
  exact earliestOf_le (y := (u, o)) (.inr ⟨hu, h⟩)

/-! ## All the overflows of a step -/

/-- The devices on the way to cycle `target`: as `Devices.Ok`, but an overflow may still be due. -/
structure Devices.OkUpTo (p : Params) (target : Nat) (d : Devices) : Prop where
  timers : ∀ t, Scheduled p target t (d.schedule t)
  dma : ∀ ch : Fin 4, (d.dma[ch]).active = true → (d.dma[ch]).ctrl.enable = true
  rested : d.restful p = true

/-- In a consistent schedule every overflow cycle counts. -/
theorem Scheduled.due_eq {p : Params} {hi : Nat} {t : Fin 4} {x : TimerControl × Option Nat} (h : Scheduled p hi t x) :
    due t x = x.2 := by
  unfold due
  split
  · rfl
  · next hr => exact (Option.not_isSome_iff_eq_none.1 fun hs => hr (h.1.1 hs)).symm

/-- The overflow cycle that an overflow at `o` gives its channel. -/
def Devices.nextCycle (p : Params) (t : Fin 4) (o : Nat) (d : Devices) : Nat :=
  overflowCycle p o (d.timers[t]).control (d.timers[t]).reload

/-- The schedule after the overflow of a channel that had it due. -/
theorem Devices.rescheduled_due (p : Params) {d : Devices} {t : Fin 4} {o : Nat} (h : d.dueAt t = some o) :
    ((d.timers[t]).control.start && freeRunning t (d.timers[t]).control) = true ∧
      d.rescheduled p t o = Function.update d.schedule t ((d.timers[t]).control, some (d.nextCycle p t o)) := by
  have hr : ((d.timers[t]).control.start && freeRunning t (d.timers[t]).control) = true := by
    by_contra hn
    rw [Devices.dueAt, if_neg hn] at h
    cases h
  refine ⟨hr, ?_⟩
  simp only [Devices.rescheduled, TimerChannel.reloaded, (Bool.and_eq_true_iff.1 hr).2, if_true]
  rfl

/-- Performing an overflow that is due keeps the devices on their way (60 R491). -/
theorem Devices.OkUpTo.overflow {p : Params} (hp : PositivePrescalers p) {target : Nat} {d : Devices}
    (h : d.OkUpTo p target) {t : Fin 4} {o : Nat} (ht : d.dueAt t = some o) (ho : o ≤ target) :
    (Devices.overflow p t o d).OkUpTo p target := by
  obtain ⟨hs, hd, hr⟩ := Devices.overflow_frame p t o d
  obtain ⟨hrun, he⟩ := Devices.rescheduled_due p ht
  refine ⟨fun u => ?_, hd ▸ h.dma, hr h.rested⟩
  rw [hs, he]
  by_cases hu : u = t
  · subst hu
    rw [Function.update_self]
    refine ⟨iff_of_true rfl hrun, fun o' ho' => ?_⟩
    cases ho'
    exact (overflowCycle_bounds hp o _ _).2.trans (Nat.add_le_add_right ho _)
  · rw [Function.update_of_ne hu]
    exact h.timers u

/-- How many cycles up to `target` an overflow cycle leaves for further overflows. -/
def overdue (target : Nat) : Option Nat → Nat
  | some o => target + 1 - o
  | none => 0

theorem Devices.overflowBound_eq (target : Nat) (d : Devices) :
    d.overflowBound target = ∑ t, overdue target (due t (d.schedule t)) := by
  rw [Fin.sum_univ_four]
  simp only [Devices.overflowBound, channels, List.map_cons, List.map_nil, List.sum_cons, List.sum_nil, add_zero,
    ← add_assoc]
  rfl

/-- Each overflow leaves fewer cycles for the others (log entry 18). -/
theorem Devices.overflowBound_overflow {p : Params} (hp : PositivePrescalers p) {target : Nat} {d : Devices}
    {t : Fin 4} {o : Nat} (ht : d.dueAt t = some o) (ho : o ≤ target) :
    (Devices.overflow p t o d).overflowBound target < d.overflowBound target := by
  obtain ⟨hs, _⟩ := Devices.overflow_frame p t o d
  obtain ⟨hrun, he⟩ := Devices.rescheduled_due p ht
  have hlater : o < d.nextCycle p t o := (overflowCycle_bounds hp o _ _).1
  have hless : overdue target (due t ((Devices.overflow p t o d).schedule t)) <
      overdue target (due t (d.schedule t)) := by
    rw [hs, he, Function.update_self, ← Devices.dueAt_eq, ht]
    simp only [due, hrun, if_true, overdue]
    omega
  rw [Devices.overflowBound_eq, Devices.overflowBound_eq]
  refine Finset.sum_lt_sum (fun u _ => ?_) ⟨t, Finset.mem_univ t, hless⟩
  by_cases hu : u = t
  · exact hu ▸ hless.le
  · rw [hs, he, Function.update_of_ne hu]

/-- Enough steps perform every overflow that is due at or before `target` (60 R490, log entry 18). -/
theorem runOverflows_done {p : Params} (hp : PositivePrescalers p) {target : Nat} (n : Nat) {d : Devices}
    (hn : d.overflowBound target ≤ n) (u : Fin 4) (o : Nat)
    (hu : (runOverflows p target n d).dueAt u = some o) : target < o := by
  induction n generalizing d with
  | zero =>
    rw [Devices.overflowBound_eq, Nat.le_zero, Finset.sum_eq_zero_iff] at hn
    have hz := hn u (Finset.mem_univ u)
    rw [← Devices.dueAt_eq, show d.dueAt u = some o from hu, overdue] at hz
    omega
  | succ n ih =>
    unfold runOverflows at hu
    split at hu
    · next t o' hnext =>
      have hdue := Devices.nextDue_due hnext
      split at hu
      · next hle => exact ih (Nat.le_of_lt_succ ((Devices.overflowBound_overflow hp hdue hle).trans_le hn)) hu
      · next hgt =>
        obtain ⟨x, hx, hxo⟩ := Devices.nextDue_le hu
        cases hnext.symm.trans hx
        omega
    · next hnone =>
      obtain ⟨x, hx, _⟩ := Devices.nextDue_le hu
      cases hnone.symm.trans hx

/-- A timer step keeps the devices' part of the invariant (60 R490). -/
theorem Devices.Ok.timerStep {p : Params} (hp : PositivePrescalers p) {d : Devices} (h : d.Ok p)
    (elapsed : Nat) : (Devices.timerStep p elapsed d).Ok p := by
  have hstart : d.OkUpTo p (d.now + elapsed) := by
    refine ⟨fun t => ?_, h.dma, h.rested⟩
    obtain ⟨⟨hiff, hle⟩, _⟩ := (TimerChannel.consistent_iff ..).1 (h.timers t)
    exact ⟨hiff, fun o ho => (hle o ho).trans (Nat.add_le_add_right (Nat.le_add_right _ _) _)⟩
  have hend : (runOverflows p (d.now + elapsed) (d.overflowBound (d.now + elapsed)) d).OkUpTo p (d.now + elapsed) :=
    runOverflows_kept (fun e t o he hnext hle => he.overflow hp (Devices.nextDue_due hnext) hle) _ hstart
  refine ⟨fun t => ?_, hend.dma, hend.rested⟩
  refine (TimerChannel.consistent_iff ..).2 ⟨hend.timers t, fun o ho => ?_⟩
  refine runOverflows_done hp (d.overflowBound (d.now + elapsed)) (d := d) le_rfl t o ?_
  rw [Devices.dueAt_eq, (hend.timers t).due_eq]
  exact ho

end Sys2Proof.Machine
end

section
/-! PROOF. Every step keeps the invariant and the parameters (10_state R56, R60, 60 R451, R472, R478, R488, R489). -/

namespace Sys2Proof.Machine

/-! ## What holds throughout a step -/

/-- The invariant with the parameters `p`, their prescalers aside, and without the mark of a redirect, which is set in
the middle of a step (40 R158). -/
structure State.Sound (p : Params) (s : State) : Prop where
  params : s.params = p
  mem : Memory.wf s.mem = true
  dev : s.dev.Ok p

/-- The invariant with the parameters `p`, their prescalers aside. -/
def State.Steady (p : Params) (s : State) : Prop := s.Sound p ∧ s.redirected = false

theorem State.inv_iff (s : State) : s.Inv ↔ s.Steady s.params ∧ PositivePrescalers s.params := by
  constructor
  · rintro ⟨hm, hr, ht, hd, hs, hp⟩
    exact ⟨⟨⟨rfl, hm, ht, hd, hs⟩, hr⟩, hp⟩
  · rintro ⟨⟨⟨_, hm, ht, hd, hs⟩, hr⟩, hp⟩
    exact ⟨hm, hr, ht, hd, hs, hp⟩

section
variable {p : Params} {s t : State}

theorem State.Sound.of_frame (h : s.Sound p) (hd : t.dev = s.dev) (hm : t.mem = s.mem) (hp : t.params = s.params) :
    t.Sound p := ⟨hp.trans h.params, hm ▸ h.mem, hd ▸ h.dev⟩

theorem State.Sound.withDev (h : s.Sound p) {d : Devices} (hd : d.Ok p) : State.Sound p { s with dev := d } :=
  ⟨h.params, h.mem, hd⟩

theorem State.Sound.loadStatus (h : s.Sound p) (new : Status) : (s.loadStatus new).Sound p :=
  h.of_frame (s.loadStatus_dev new) (s.loadStatus_mem new) (s.loadStatus_params new)

theorem State.Sound.enter (h : s.Sound p) (e : Exc) : (s.enter e).Sound p := by
  obtain ⟨_, _, _, hd, hm, _, _, hp⟩ := s.enter_frame e
  exact h.of_frame hd hm hp

theorem State.storeBy_dev {rule : StoreRule} {mem : List Host.Cell} {call : NodeStore}
    (h : s.storeBy rule mem call = some t) : t.dev = s.dev := by
  obtain ⟨_, rfl⟩ | ⟨_, rfl⟩ | ⟨_, rfl⟩ := State.storeBy_cases h <;> rfl

/-- A bus store leaves the devices alone or is a store to a register block (20_memory R73). -/
theorem BusStored.dev_ok (hp : PositivePrescalers s.params) (h : BusStored s t) (hd : s.dev.Ok s.params) :
    t.dev.Ok s.params := by
  cases h with
  | byte a v h =>
    obtain ⟨_, rfl⟩ | ⟨_, _, _, _, h⟩ | ⟨b, off, _, rfl⟩ := State.store8_cases h
    · exact hd
    · exact State.storeBy_dev h ▸ hd
    · exact b.store8_ok hp off v hd
  | half a v h =>
    obtain ⟨_, rfl⟩ | ⟨_, _, _, _, h⟩ | ⟨b, off, _, rfl⟩ := State.store16_cases h
    · exact hd
    · exact State.storeBy_dev h ▸ hd
    · exact b.store16_ok hp off v hd
  | word a v h =>
    obtain ⟨_, rfl⟩ | ⟨_, _, _, _, h⟩ | ⟨b, off, _, rfl⟩ := State.store32_cases h
    · exact hd
    · exact State.storeBy_dev h ▸ hd
    · exact b.store32_ok hp off v hd

theorem BusStored.sound (hp : PositivePrescalers p) (h : BusStored s t) (hs : s.Sound p) : t.Sound p := by
  obtain ⟨rfl, hm, hd⟩ := hs
  obtain ⟨_, _, _, _, _, _, _, hpar⟩ := h.effect.core
  exact ⟨hpar, h.effect.wf hm, h.dev_ok hp hd⟩

theorem BusStored.steady (hp : PositivePrescalers p) (h : BusStored s t) (hs : s.Steady p) : t.Steady p := by
  obtain ⟨_, _, _, _, hr, _⟩ := h.effect.core
  exact ⟨h.sound hp hs.1, hr.trans hs.2⟩

/-- A store that fails is dropped by its caller (60 R480, R503). -/
theorem State.Steady.stored (hp : PositivePrescalers p) (hs : s.Steady p) {o : Option State}
    (ho : ∀ t, o = some t → BusStored s t) : (o.getD s).Steady p := by
  cases o with
  | none => exact hs
  | some t => exact (ho t rfl).steady hp hs

/-! ## The CPU step -/

theorem Write.sound (hp : PositivePrescalers p) (h : Write s t) (hs : s.Sound p) : t.Sound p := by
  cases h with
  | reg r v => exact hs.of_frame rfl rfl rfl
  | usrReg r v => obtain h | ⟨_, b, h⟩ := s.setUsrReg_cases r v <;> rw [h] <;> exact hs.of_frame rfl rfl rfl
  | pc v => exact hs.of_frame rfl rfl rfl
  | bus h => exact h.sound hp hs

/-- No ending of an instruction changes memory, devices or parameters, its bus stores aside. -/
theorem Ended.sound {i : Instr} (hp : PositivePrescalers p) (h : Ended i s t) (hs : s.Sound p) : t.Sound p := by
  have hw : ∀ {u}, Writes s u → u.Sound p := fun hu => hu.kept (fun _ _ => Write.sound hp) hs
  cases h with
  | wrote h => exact hw h
  | flagged h n z c v => exact (hw h).of_frame rfl rfl rfl
  | @trapped u e h _ => exact (hw h).enter e
  | exchanged _ narrow a => exact (hs.loadStatus _).of_frame rfl rfl rfl
  | @returned u new h _ _ a => exact ((hw h).loadStatus new).of_frame rfl rfl rfl
  | @cpsrWritten _ _ new _ _ => exact hs.loadStatus new
  | spsrWritten _ q => exact hs.of_frame rfl rfl rfl

theorem State.Sound.runWide (hp : PositivePrescalers p) (hs : s.Sound p) {w : Word}
    (h : s.runWide w = .next t) : t.Sound p := by
  unfold State.runWide at h
  split at h
  · exact (exec_ended h).sound hp hs
  · obtain ⟨_, rfl⟩ | ⟨_, h⟩ := State.ifPassed_next.1 h
    · exact hs
    · cases h; exact hs.enter .undefined

theorem State.Sound.runNarrow (hp : PositivePrescalers p) (hs : s.Sound p) {hw : Half}
    (h : s.runNarrow hw = .next t) : t.Sound p := by
  unfold State.runNarrow at h
  split at h
  · exact (exec_ended h).sound hp hs
  · cases h; exact hs.enter .undefined

theorem State.Sound.enterAsync (hs : s.Sound p) (e : Exc) : (s.enterAsync e).Sound p := by
  cases e with
  | reset =>
    have h := hs.enter .reset
    exact h.withDev ⟨h.dev.timers, h.dev.dma, h.dev.rested⟩
  | undefined | swi | prefetchAbort | dataAbort | irq | fiq => exact hs.enter _

/-- The end of a CPU step clears the mark of a redirect (40 R158, 10_state R60). -/
theorem State.Sound.finishStep (hs : s.Sound p) (w : Word) : (s.finishStep w).Steady p := by
  unfold State.finishStep
  split
  · exact ⟨hs.of_frame rfl rfl rfl, rfl⟩
  · next hr => exact ⟨hs.of_frame rfl rfl rfl, Bool.eq_false_of_not_eq_true hr⟩

theorem State.Steady.cpuStep (hp : PositivePrescalers p) (hs : s.Steady p) (h : s.cpuStep = .next t) :
    t.Steady p := by
  have hprep : s.prepared.Sound p := hs.1.of_frame rfl rfl rfl
  have hdrawn : s.prepared.drawn.Sound p := hprep.of_frame rfl rfl rfl
  obtain ⟨u, rfl, hu⟩ := State.cpuStep_next h
  refine State.Sound.finishStep ?_ _
  obtain ⟨e, _, rfl⟩ | ⟨_, rfl⟩ | ⟨w, _, _, hw⟩ | ⟨hw, _, _, hn⟩ := hu
  · exact hprep.enterAsync e
  · exact hdrawn.enter .prefetchAbort
  · exact hdrawn.runWide hp hw
  · exact hdrawn.runNarrow hp hn

/-! ## The DMA step -/

theorem State.Steady.dmaMove (hp : PositivePrescalers p) (hs : s.Steady p) (isWord : Bool) (src dst : Word) :
    (s.dmaMove isWord src dst).Steady p := by
  unfold State.dmaMove
  split
  · exact hs.stored hp fun _ => .word _ _
  · exact hs.stored hp fun _ => .half _ _

/-- A unit moves the channel's addresses on and leaves its control word and its activity as the store left them
(60 R477). -/
theorem State.Steady.dmaUnit (hp : PositivePrescalers p) (hs : s.Steady p) (ctrl : DmaControl) (ch : Fin 4) :
    (s.dmaUnit ctrl ch).Steady p := by
  obtain ⟨h, hr⟩ := hs.dmaMove hp ctrl.isWord (s.dev.dma[ch]).src (s.dev.dma[ch]).dst
  exact ⟨⟨h.params, h.mem, h.dev.setDma ch (h.dev.dma ch)⟩, hr⟩

theorem State.Steady.dmaStep (hp : PositivePrescalers p) (hs : s.Steady p) (ch : Fin 4) :
    (s.dmaStep ch).Steady p := by
  obtain ⟨h, hr⟩ : (State.dmaUnits (s.dev.dma[ch]).ctrl ch (s.dev.dma[ch]).remaining s).Steady p :=
    State.dmaUnits_kept (fun _ hu => hu.dmaUnit hp _ ch) _ hs
  exact ⟨h.withDev (h.params.symm ▸ h.dev.complete ch), hr⟩

/-! ## The tick -/

theorem State.Steady.agentStep (hp : PositivePrescalers p) (hs : s.Steady p) (h : s.agentStep = .next t) :
    t.Steady p := by
  unfold State.agentStep at h
  split at h
  · cases h; exact hs.dmaStep hp _
  · split at h
    · exact hs.cpuStep hp h
    · cases h; exact hs
    · cases h; exact hs

theorem State.Steady.timerPhase (hp : PositivePrescalers p) (hs : s.Steady p) : s.timerPhase.Steady p := by
  obtain ⟨⟨rfl, hm, hd⟩, hr⟩ := hs
  have hquiet : Devices.Ok s.params { s.dev with notices := [] } := ⟨hd.timers, hd.dma, hd.rested⟩
  exact ⟨⟨rfl, hm, hquiet.timerStep hp _⟩, hr⟩

theorem State.Steady.withDev (hs : s.Steady p) {d : Devices} (hd : d.Ok s.params) :
    State.Steady p { s with dev := d } :=
  ⟨hs.1.withDev (hs.1.params ▸ hd), hs.2⟩

theorem aligned_next {a : Word} {bytes : Nat} {k : Outcome} (h : aligned a bytes k = .next t) : k = .next t := by
  unfold aligned at h
  split at h
  · exact h
  · cases h

/-- A call from outside keeps the invariant (60 R470, R503). -/
theorem State.Steady.hostCall (hp : PositivePrescalers p) (hs : s.Steady p) {call : HostCall}
    (h : s.hostCall call = .next t) : t.Steady p := by
  have hd : s.dev.Ok s.params := hs.1.params.symm ▸ hs.1.dev
  cases call with
  | raise source => cases h; exact hs.withDev (hd.raise _)
  | vblank => cases h; exact hs.withDev (hd.armAll .vblank)
  | hblank line => cases h; exact hs.withDev (hd.signalHblank line)
  | fifoRefresh ch => cases h; exact hs.withDev (hd.fifoRefresh ch)
  | setFiq level => cases h; exact hs.withDev ⟨hd.timers, hd.dma, hd.rested⟩
  | setReset => cases h; exact hs.withDev ⟨hd.timers, hd.dma, hd.rested⟩
  | store8 a v => cases h; exact hs.stored hp fun _ => .byte a v
  | store16 a v => cases aligned_next h; exact hs.stored hp fun _ => .half a v
  | store32 a v => cases aligned_next h; exact hs.stored hp fun _ => .word a v
  | nodeByte cell v => cases h; exact ⟨⟨hs.1.params, Memory.wf_write hs.1.mem cell v, hs.1.dev⟩, hs.2⟩

theorem State.Steady.externalPhase (hp : PositivePrescalers p) (hs : s.Steady p)
    (h : s.externalPhase = .next t) : t.Steady p := by
  unfold State.externalPhase at h
  split at h
  · cases h; exact hs
  · next batch rest _ =>
    have hrest : State.Steady p { s with hostCalls := rest } := ⟨hs.1.of_frame rfl rfl rfl, hs.2⟩
    exact runCalls_kept (fun _ _ _ hu => hu.hostCall hp) batch hrest h

theorem State.Steady.step (hp : PositivePrescalers p) (hs : s.Steady p) (h : step s = .next t) :
    t.Steady p := by
  obtain ⟨u, hu, ht⟩ := step_next.1 h
  exact ((hs.agentStep hp hu).timerPhase hp).externalPhase hp ht

end

/-- Settles O50: each part of a tick (an instruction by its endings, a DMA step by its units, the timer phase by its
overflows, the calls from outside one by one) keeps the invariant and the parameters. -/
theorem stepKeepsInvariant : Obligations.StepKeepsInvariant := by
  intro s t hs h
  obtain ⟨hsteady, hp⟩ := s.inv_iff.1 hs
  have ht := hsteady.step hp h
  have hpar : t.params = s.params := ht.1.params
  exact ⟨t.inv_iff.2 (hpar ▸ ⟨ht, hp⟩), hpar⟩

end Sys2Proof.Machine
end

section
/-! PROOF. Where `load_status` moves each cell, and that going to a mode and back restores everything (10_state R40,
R41). -/

namespace Sys2Proof.Machine

/-! ## Bank cells -/

theorem Banks.spLr_setSpLr (b : Banks) (k j : Bank) (r : SpLr) :
    (b.setSpLr k r).spLr j = if j = k then r else b.spLr j := by
  cases k <;> cases j <;> rfl

theorem Banks.spLr_setSpsr (b : Banks) (k j : Bank) (q : Saved) : (b.setSpsr k q).spLr j = b.spLr j := by
  cases k <;> cases j <;> rfl

theorem Banks.spsr_setSpLr (b : Banks) (k j : Bank) (r : SpLr) : (b.setSpLr k r).spsr j = b.spsr j := by
  cases k <;> cases j <;> rfl

/-- The spsr cell after a write; a bank without one stays without. -/
theorem Banks.spsr_setSpsr (b : Banks) (k j : Bank) (q : Saved) :
    (b.setSpsr k q).spsr j = if j = k then (b.spsr k).map fun _ => q else b.spsr j := by
  cases k <;> cases j <;> rfl

theorem Banks.spsr_isSome (b : Banks) {k : Bank} (hk : k ≠ .usr) : ∃ q, b.spsr k = some q := by
  cases k with
  | usr => exact absurd rfl hk
  | fiq | irq | svc | abt | und => exact ⟨_, rfl⟩

/-! ## Saving the outgoing bank -/

/-- The cells that saving a bank writes besides r8 to r12. -/
theorem State.saveBank_cells (s : State) (ob nb : Bank) :
    (s.saveBank ob nb).banks.spLr =
        ((s.banks.setSpLr ob { r13 := s.reg 13, r14 := s.reg 14 }).setSpsr ob s.spsr).spLr ∧
      (s.saveBank ob nb).banks.spsr =
        ((s.banks.setSpLr ob { r13 := s.reg 13, r14 := s.reg 14 }).setSpsr ob s.spsr).spsr := by
  unfold State.saveBank
  dsimp only
  constructor <;> funext k <;> split <;> split <;> cases k <;> rfl

theorem State.saveBank_spLr_eq (s : State) (ob nb k : Bank) :
    (s.saveBank ob nb).banks.spLr k = if k = ob then { r13 := s.reg 13, r14 := s.reg 14 } else s.banks.spLr k := by
  rw [(s.saveBank_cells ob nb).1, Banks.spLr_setSpsr, Banks.spLr_setSpLr]

theorem State.saveBank_spsr_eq (s : State) (ob nb k : Bank) :
    (s.saveBank ob nb).banks.spsr k = if k = ob then (s.banks.spsr ob).map fun _ => s.spsr else s.banks.spsr k := by
  rw [(s.saveBank_cells ob nb).2, Banks.spsr_setSpsr, Banks.spsr_setSpLr, Banks.spsr_setSpLr]

theorem State.saveBank_fiqHi (s : State) (ob nb : Bank) :
    (s.saveBank ob nb).banks.fiqHi = if ob = .fiq then s.liveHi else s.banks.fiqHi := by
  cases ob <;> cases nb <;> rfl

theorem State.saveBank_usrHi (s : State) (ob nb : Bank) :
    (s.saveBank ob nb).banks.usrHi = if nb = .fiq then s.liveHi else s.banks.usrHi := by
  cases ob <;> cases nb <;> rfl

/-! ## r8 to r12 -/

theorem State.liveHi_setHi (s : State) (h : Vector Word 5) : (s.setHi h).liveHi = h := by
  have hl : (s.setHi h).liveHi = #v[h[0], h[1], h[2], h[3], h[4]] := by
    simp [State.liveHi, State.setHi, State.reg_setReg]
  rw [hl]
  ext i hi
  interval_cases i <;> rfl

/-- The register numbers of r8 to r12. -/
theorem hi_reg_cases (r : Reg) (h : 8 ≤ r.toNat) (h' : r.toNat ≤ 12) : r = 8 ∨ r = 9 ∨ r = 10 ∨ r = 11 ∨ r = 12 := by
  revert r; decide

/-- r8 to r12 of two states agree where they agree one by one. -/
theorem State.liveHi_eq_iff (s t : State) :
    t.liveHi = s.liveHi ↔ ∀ r : Reg, 8 ≤ r.toNat → r.toNat ≤ 12 → t.reg r = s.reg r := by
  constructor
  · intro h r h8 h12
    obtain rfl | rfl | rfl | rfl | rfl := hi_reg_cases r h8 h12
    · exact congrArg (·[0]) h
    · exact congrArg (·[1]) h
    · exact congrArg (·[2]) h
    · exact congrArg (·[3]) h
    · exact congrArg (·[4]) h
  · intro h
    simp only [State.liveHi, h 8 (by decide) (by decide), h 9 (by decide) (by decide), h 10 (by decide) (by decide),
      h 11 (by decide) (by decide), h 12 (by decide) (by decide)]

theorem State.liveHi_hiMoved (s : State) (ob nb : Bank) :
    (s.hiMoved ob nb).liveHi =
      if nb = .fiq then s.banks.fiqHi else if ob = .fiq then s.banks.usrHi else s.liveHi := by
  unfold State.hiMoved
  dsimp only
  split <;> split
  · exact State.liveHi_setHi _ _
  · exact State.liveHi_setHi _ _
  · exact State.liveHi_setHi _ _
  · rfl

/-- r8 to r12 after a change of bank: those of FIQ where it is entered, those of the other modes where it is left
(10_state R40). -/
theorem State.loadStatus_liveHi (s : State) (new : Status) (hb : s.cpsr.mode.bank ≠ new.mode.bank) :
    (s.loadStatus new).liveHi =
      if new.mode.bank = .fiq then s.banks.fiqHi else if s.cpsr.mode.bank = .fiq then s.banks.usrHi else s.liveHi := by
  have hl : (s.loadStatus new).liveHi =
      ((s.saveBank s.cpsr.mode.bank new.mode.bank).hiMoved s.cpsr.mode.bank new.mode.bank).liveHi := by
    refine (State.liveHi_eq_iff _ _).2 fun r h8 h12 => ?_
    rw [State.loadStatus_reg s new hb, if_neg, if_neg] <;> rintro rfl <;> exact absurd h12 (by decide)
  rw [hl, State.liveHi_hiMoved, State.saveBank_fiqHi, State.saveBank_usrHi]
  by_cases hn : new.mode.bank = .fiq
  · rw [if_pos hn, if_pos hn, if_neg (hn ▸ hb)]
  · rw [if_neg hn, if_neg hn, if_neg hn]
    rfl

/-! ## Where each cell goes -/

/-- Settles O15: between modes of one bank the word alone is installed; on a change of bank each cell is read off the
saving of the outgoing bank and the loading of the incoming one. -/
theorem loadStatusMovesBanks : Obligations.LoadStatusMovesBanks := by
  intro s new
  refine ⟨s.loadStatus_cpsr new, fun hb => ?_, fun hb => ?_⟩
  · rw [State.loadStatus_same s new hb]
    exact ⟨fun _ => rfl, rfl, rfl⟩
  · have hbanks : (s.loadStatus new).banks = (s.saveBank s.cpsr.mode.bank new.mode.bank).banks :=
      (s.loadStatus_banks new).trans (if_neg hb)
    have hhi := State.loadStatus_liveHi s new hb
    rw [hbanks, State.saveBank_spLr_eq, State.saveBank_spsr_eq, if_pos rfl, if_pos rfl]
    refine ⟨rfl, fun b h => ?_, fun h => ?_, fun b h => ?_, fun h => ⟨?_, ?_⟩, fun h => ⟨?_, ?_⟩, fun h h' => ?_,
      State.loadStatus_r13 s new hb, State.loadStatus_r14 s new hb, fun q hq => ?_⟩
    · rw [State.saveBank_spLr_eq, if_neg h]
    · obtain ⟨q, hq⟩ := s.banks.spsr_isSome h
      rw [hq]; rfl
    · rw [State.saveBank_spsr_eq, if_neg h]
    · rw [State.saveBank_fiqHi, if_pos h]
    · rw [hhi, if_neg fun hn => hb (h.trans hn.symm), if_pos h]
    · rw [State.saveBank_usrHi, if_pos h]
    · rw [hhi, if_pos h]
    · rw [hhi, if_neg h', if_neg h]
    · rw [State.loadStatus_spsr s new hb, hq]; rfl

/-! ## There and back -/

/-- A register is shared by all modes, one of r8 to r12, r13 or r14 (10_state R22). -/
theorem reg_cases (r : Reg) : (r.toNat < 8 ∨ r = 15) ∨ (8 ≤ r.toNat ∧ r.toNat ≤ 12) ∨ r = 13 ∨ r = 14 := by
  revert r; decide

/-- A mode with an SPSR has a bank with a cell for it (10_state R39). -/
theorem Mode.bank_ne_usr {m : Mode} (h : m.hasSpsr = true) : m.bank ≠ .usr := by
  cases m with
  | user | system => exact absurd h (by decide)
  | fiq | irq | supervisor | abort | undefined => decide

/-- r8 to r12 after a change of bank and back (10_state R41). -/
theorem State.loadStatus_back_liveHi (s : State) (p : Status) (hb : s.cpsr.mode.bank ≠ p.mode.bank) :
    ((s.loadStatus p).loadStatus s.cpsr).liveHi = s.liveHi := by
  obtain ⟨_, _, hto⟩ := loadStatusMovesBanks s p
  obtain ⟨_, _, _, _, hleft, hentered, helse, _⟩ := hto hb
  rw [State.loadStatus_liveHi _ _ (by rw [State.loadStatus_cpsr]; exact hb.symm), State.loadStatus_cpsr]
  split
  · next hf => exact (hleft hf).1
  · next hs =>
    split
    · next hf => exact (hentered hf).1
    · next hp => exact helse hs hp

/-- Settles O14: what the way there saved, the way back loads. -/
theorem loadStatusRoundTrip : Obligations.LoadStatusRoundTrip := by
  intro s p
  refine ⟨State.loadStatus_cpsr _ _, ?_⟩
  by_cases hb : s.cpsr.mode.bank = p.mode.bank
  · have hback : (s.loadStatus p).loadStatus s.cpsr = s := by
      rw [State.loadStatus_same s p hb, State.loadStatus_same _ _ hb.symm]
    rw [hback]
    exact ⟨fun _ => rfl, fun _ => rfl⟩
  · have hback : (s.loadStatus p).cpsr.mode.bank ≠ s.cpsr.mode.bank := by
      rw [State.loadStatus_cpsr]
      exact Ne.symm hb
    obtain ⟨_, _, hto⟩ := loadStatusMovesBanks s p
    obtain ⟨hsp, _, hspsr, _⟩ := hto hb
    refine ⟨fun r => ?_, fun hm => ?_⟩
    · obtain hr | ⟨h8, h12⟩ | rfl | rfl := reg_cases r
      · rw [State.loadStatus_reg_shared _ _ r hr, State.loadStatus_reg_shared s p r hr]
      · exact (State.liveHi_eq_iff _ _).1 (State.loadStatus_back_liveHi s p hb) r h8 h12
      · rw [State.loadStatus_r13 _ _ hback, hsp]
      · rw [State.loadStatus_r14 _ _ hback, hsp]
    · rw [State.loadStatus_spsr _ _ hback, hspsr (Mode.bank_ne_usr hm)]
      rfl

end Sys2Proof.Machine
end

section
/-! PROOF. The state after reset (10_state R62, R64). -/

namespace Sys2Proof.Machine

theorem reset_dma (ch : Fin 4) : State.reset.dev.dma[ch] = DmaChannel.reset := by fin_cases ch <;> rfl

theorem reset_timers (t : Fin 4) : State.reset.dev.timers[t] = TimerChannel.reset := by fin_cases t <;> rfl

/-- Settles O16: every channel and every timer is the reset one; the rest is read off the state after reset. -/
theorem resetState : Obligations.ResetState := by
  refine ⟨rfl, rfl, rfl, rfl, rfl, rfl, rfl, rfl, rfl, rfl, rfl, rfl, rfl, rfl, rfl, fun ch => ?_, fun t => ?_, rfl⟩
  · rw [reset_dma]
    exact ⟨rfl, rfl, rfl, rfl, rfl⟩
  · rw [reset_timers]
    exact ⟨rfl, rfl, rfl, rfl⟩

/-- Settles O49: no channel is active, no timer is started, nothing sleeps. -/
theorem resetInvariant : Obligations.ResetInvariant := by
  refine ⟨Memory.wf_reset, rfl, fun t => ?_, fun ch h => ?_, rfl, by decide⟩
  · rw [reset_timers]
    rfl
  · rw [reset_dma] at h
    exact absurd h (by decide)

end Sys2Proof.Machine
end

section
/-! PROOF. Words, halfwords and bytes on the bus: one little-endian store behind an external node, nothing behind an
unmapped address (20_memory R75, R80, R88, R89). -/

namespace Sys2Proof.Machine

/-! ## Unmapped addresses -/

/-- An address with a bit of 31:28 set is not below 2^28. -/
theorem le_of_upper_ne_zero {a : Word} (h : a.extractLsb' 28 4 ≠ 0) : 2 ^ 28 ≤ a.toNat := by
  by_contra hlt
  refine h (BitVec.eq_of_toNat_eq ?_)
  rw [BitVec.extractLsb'_toNat, Nat.shiftRight_eq_div_pow, Nat.div_eq_of_lt (by omega)]
  rfl

/-- Settles O55: under the default policy no leaf owns the address, so a load fails and a store is dropped. -/
theorem unmappedAddresses : Obligations.UnmappedAddresses := by
  intro s a hp ha
  have ht : target s.params a = .absent := if_pos ⟨hp, le_of_upper_ne_zero ha⟩
  simp only [State.load8, State.load16, State.load32, State.store8, State.store16, State.store32, ht, implies_true,
    and_self]

/-! ## The bytes of an aligned word are neighbours -/

theorem regionOf_add (n : Node) {off k : Nat} (h : off % 4 + k < 4) : regionOf n (off + k) = regionOf n off := by
  have hw : (off + k) / 4 = off / 4 := by omega
  simp only [regionOf, hw]

theorem nodeTarget_add {b o k bank off : Nat} {n : Node} {r : Region} (hk : o % 4 + k < 4)
    (h : nodeTarget b o n = .node bank off r) : nodeTarget b (o + k) n = .node bank (off + k) r := by
  unfold nodeTarget at h ⊢
  rw [regionOf_add n hk]
  split at h
  · cases h; rfl
  · cases h

/-- No register block ends within an aligned word of the outside's offsets (20_memory R85). -/
theorem ioTarget_add {p : Params} {o k bank off : Nat} {r : Region} (ho : o % 4 = 0) (hk : k < 4)
    (h : ioTarget p o = .node bank off r) : ioTarget p (o + k) = .node bank (off + k) r := by
  unfold ioTarget at h ⊢
  split at h
  · cases h
  · split at h
    · cases h
    · split at h
      · cases h
      · rw [if_neg (by omega), if_neg (by omega), if_neg (by omega)]
        exact nodeTarget_add (by omega) h

/-- The bytes of an aligned word that a region owns are its own, one after the other (20_memory R84). -/
theorem target_add {p : Params} {a : Word} {k bank off : Nat} {r : Region} (ha : a.toNat % 4 = 0) (hk : k < 4)
    (h : target p a = .node bank off r) : target p (a + BitVec.ofNat 32 k) = .node bank (off + k) r := by
  have hlt := a.isLt
  have hn : (a + BitVec.ofNat 32 k).toNat = a.toNat + k := by
    rw [BitVec.toNat_add, BitVec.toNat_ofNat]
    omega
  have hbank : (a.toNat + k) / 2 ^ 24 % 16 = a.toNat / 2 ^ 24 % 16 := by omega
  have hoff : (a.toNat + k) % 2 ^ 24 = a.toNat % 2 ^ 24 + k := by omega
  have hupper : 2 ^ 28 ≤ a.toNat + k ↔ 2 ^ 28 ≤ a.toNat := by omega
  unfold target at h ⊢
  simp only [hn, hbank, hoff, hupper]
  split at h
  · cases h
  · next hu =>
    rw [if_neg hu]
    split at h
    · next h4 => rw [if_pos h4]; exact ioTarget_add (by omega) hk h
    · next h4 => rw [if_neg h4]; exact nodeTarget_add (by omega) h

/-! ## Reading a stored word -/

theorem Memory.read_write32_at {m : List Host.Cell} (hm : Memory.wf m = true) (c : Nat) (v : Word) {k : Nat}
    (hk : k < 4) : Memory.read (Memory.write32 m c v) (c + k) = v.extractLsb' (8 * k) 8 := by
  rw [Memory.read_write32 hm]
  interval_cases k <;> simp

theorem Memory.read16_write32 {m : List Host.Cell} (hm : Memory.wf m = true) (c : Nat) (v : Word) {j : Nat}
    (hj : j < 2) : Memory.read16 (Memory.write32 m c v) (c + 2 * j) = v.extractLsb' (16 * j) 16 := by
  rw [Memory.read16, Nat.add_assoc, Memory.read_write32_at hm c v (k := 2 * j + 1) (by omega),
    Memory.read_write32_at hm c v (k := 2 * j) (by omega)]
  rw [BitVec.extractLsb'_append_extractLsb'_eq_extractLsb' (by omega)]
  congr 1
  omega

theorem Memory.read32_write32 {m : List Host.Cell} (hm : Memory.wf m = true) (c : Nat) (v : Word) :
    Memory.read32 (Memory.write32 m c v) c = v := by
  have hb : Memory.read32 (Memory.write32 m c v) c =
      v.extractLsb' 24 8 ++ v.extractLsb' 16 8 ++ v.extractLsb' 8 8 ++ v.extractLsb' 0 8 := by
    simp [Memory.read32, Memory.read_write32 hm]
  rw [hb, BitVec.extractLsb'_append_extractLsb'_eq_extractLsb' (by decide),
    BitVec.extractLsb'_append_extractLsb'_eq_extractLsb' (by decide),
    BitVec.extractLsb'_append_extractLsb'_eq_extractLsb' (by decide)]
  exact BitVec.extractLsb'_eq_self

theorem Memory.read_write32_outside {m : List Host.Cell} (hm : Memory.wf m = true) {c : Nat} (v : Word) {k : Nat}
    (hk : k < c ∨ c + 4 ≤ k) : Memory.read (Memory.write32 m c v) k = Memory.read m k := by
  rw [Memory.read_write32 hm, if_neg (by omega), if_neg (by omega), if_neg (by omega), if_neg (by omega)]

theorem Memory.read_write16_outside {m : List Host.Cell} (hm : Memory.wf m = true) {c : Nat} (v : Half) {k : Nat}
    (hk : k < c ∨ c + 2 ≤ k) : Memory.read (Memory.write16 m c v) k = Memory.read m k := by
  rw [Memory.read_write16 hm, if_neg (by omega), if_neg (by omega)]

theorem Memory.read_write_outside {m : List Host.Cell} (hm : Memory.wf m = true) {c : Nat} (v : Byte) {k : Nat}
    (hk : k < c ∨ c + 1 ≤ k) : Memory.read (Memory.write m c v) k = Memory.read m k := by
  rw [Memory.read_write hm, if_neg (by omega)]

/-- Settles O54: the loads reach the region that took the word, at the cells beside its first one. -/
theorem mixedWidthMemory : Obligations.MixedWidthMemory := by
  intro s a v hm ha ⟨bank, off, r, ht, hl, hs⟩
  have hoff : off % 4 = 0 := by rw [target_node_off ht]; omega
  obtain ⟨t, hst, hp, hmem⟩ : ∃ t, s.store32 a v = some t ∧ t.params = s.params ∧
      t.mem = Memory.write32 s.mem (cellIn r off) v := ⟨_, State.store32_cells v ht hs, rfl, rfl⟩
  have hat : ∀ k, k < 4 → target t.params (a + BitVec.ofNat 32 k) = .node bank (off + k) r :=
    fun k hk => hp ▸ target_add ha hk ht
  refine ⟨t, hst, ?_, fun k hk => ?_, fun j hj => ?_, fun c hc => ?_⟩
  · rw [State.load32_cells (hp ▸ ht) hl, hmem, Memory.read32_write32 hm]
  · rw [State.load8_cells (hat k hk) hl, hmem, cellIn_add r (by omega), Memory.read_write32_at hm _ v hk]
  · rw [State.load16_cells (hat (2 * j) (by omega)) hl, hmem, cellIn_add r (by omega), Memory.read16_write32 hm _ v hj]
  · rw [cellOf_node ht] at hc
    rw [hmem, Memory.read_write32_outside hm v hc]

/-! ## What a store leaves alone in memory -/

/-- A store that a region accepts changes at most the bytes it writes, of that region's storage (20_memory R84). -/
theorem State.storeBy_memKept {s t : State} {a : Word} {n bank off : Nat} {r : Region} {mem : List Host.Cell}
    {call : NodeStore} (ht : target s.params a = .node bank off r)
    (hk : ∀ c, (c < cellIn r off ∨ cellIn r off + n ≤ c) → Memory.read mem c = Memory.read s.mem c)
    (h : s.storeBy r.store mem call = some t) : MemKeptButStore a n s t := by
  obtain ⟨hr, rfl⟩ | ⟨_, rfl⟩ | ⟨_, rfl⟩ := State.storeBy_cases h
  · exact fun c hc => hk c (hc _ (by simp only [storedCell, ht, hr, if_true]))
  · exact fun c _ => rfl
  · exact fun c _ => rfl

theorem State.store8_memKept {s t : State} {a : Word} {v : Byte} (hm : Memory.wf s.mem = true)
    (h : s.store8 a v = some t) : MemKeptButStore a 1 s t := by
  obtain ⟨_, rfl⟩ | ⟨_, _, _, ht, h⟩ | ⟨_, _, _, rfl⟩ := State.store8_cases h
  · exact fun c _ => rfl
  · exact State.storeBy_memKept ht (fun c hc => Memory.read_write_outside hm v hc) h
  · exact fun c _ => rfl

theorem State.store16_memKept {s t : State} {a : Word} {v : Half} (hm : Memory.wf s.mem = true)
    (h : s.store16 a v = some t) : MemKeptButStore a 2 s t := by
  obtain ⟨_, rfl⟩ | ⟨_, _, _, ht, h⟩ | ⟨_, _, _, rfl⟩ := State.store16_cases h
  · exact fun c _ => rfl
  · exact State.storeBy_memKept ht (fun c hc => Memory.read_write16_outside hm v hc) h
  · exact fun c _ => rfl

theorem State.store32_memKept {s t : State} {a : Word} {v : Word} (hm : Memory.wf s.mem = true)
    (h : s.store32 a v = some t) : MemKeptButStore a 4 s t := by
  obtain ⟨_, rfl⟩ | ⟨_, _, _, ht, h⟩ | ⟨_, _, _, rfl⟩ := State.store32_cases h
  · exact fun c _ => rfl
  · exact State.storeBy_memKept ht (fun c hc => Memory.read_write32_outside hm v hc) h
  · exact fun c _ => rfl

end Sys2Proof.Machine
end

section
/-! PROOF. What the wide single stores leave alone (44 R241, R243, R245, R248, R252). -/

namespace Sys2Proof.Machine

/-! ## The form of the wide single stores -/

theorem exec_str (c : Cond) (mode : SdtMode) (u : Bool) (rn rd : Reg) (off : SdtOffset) (st : State) :
    exec (sdtInstr .str c mode u rn rd off) st =
      st.ifPassed c (guarded (sdtInstr .str c mode u rn rd off).unpredictable
        (st.str rn rd (transfer mode.p u mode.w (st.reg rn) (off.value st)))) := by
  cases off <;> cases mode <;> rfl

theorem exec_strb (c : Cond) (mode : SdtMode) (u : Bool) (rn rd : Reg) (off : SdtOffset) (st : State) :
    exec (sdtInstr .strb c mode u rn rd off) st =
      st.ifPassed c (guarded (sdtInstr .strb c mode u rn rd off).unpredictable
        (st.strb rn rd (transfer mode.p u mode.w (st.reg rn) (off.value st)))) := by
  cases off <;> cases mode <;> rfl

theorem exec_strh (c : Cond) (p u w : Bool) (rn rd : Reg) (off : HwOffset) (st : State) :
    exec (hwInstr .strh c p u w rn rd off) st =
      st.ifPassed c (guarded (hwInstr .strh c p u w rn rd off).unpredictable
        (st.strh rn rd (transfer p u w (st.reg rn) (off.value st)))) := by
  cases off <;> rfl

/-- The first check of a list refuses nothing where the list refuses nothing. -/
theorem firstOf_cons_none {b : Bool} {u : Unpredictable} {l : List (Bool × Unpredictable)} :
    firstOf ((b, u) :: l) = none ↔ b = false ∧ firstOf l = none := by
  cases b <;> simp [firstOf]

/-- A well-formed word or byte transfer that writes its base back has a base other than r15 (93 U8). -/
theorem sdtInstr_base_ne_pc {op : SdtOp} {c : Cond} {mode : SdtMode} {u : Bool} {rn rd : Reg} {off : SdtOffset}
    (h : (sdtInstr op c mode u rn rd off).unpredictable = none) (hw : (!mode.p || mode.w) = true) : rn ≠ 15 := by
  have hb : ((!mode.p || mode.w) && rn == 15) = false := by
    cases off <;> cases op <;> cases mode <;> exact (firstOf_cons_none.1 h).1
  simpa [hw] using hb

/-- A well-formed halfword or signed transfer that writes its base back has a base other than r15 (93 U8). -/
theorem hwInstr_base_ne_pc {op : HwOp} {c : Cond} {p u w : Bool} {rn rd : Reg} {off : HwOffset}
    (h : (hwInstr op c p u w rn rd off).unpredictable = none) (hw : (!p || w) = true) : rn ≠ 15 := by
  have hb : ((!p || w) && rn == 15) = false := by
    cases off <;> cases op <;> exact (firstOf_cons_none.1 (firstOf_cons_none.1 h).2).1
  simpa [hw] using hb

/-- A well-formed byte store does not store r15 (93 U8). -/
theorem strb_source_ne_pc {c : Cond} {mode : SdtMode} {u : Bool} {rn rd : Reg} {off : SdtOffset}
    (h : (sdtInstr .strb c mode u rn rd off).unpredictable = none) : rd ≠ 15 := by
  have hb : (rd == 15) = false := by
    cases off <;> cases mode <;> exact (firstOf_cons_none.1 (firstOf_cons_none.1 h).2).1
  simpa using hb

/-! ## The frame -/

/-- All that an instruction leaves alone which writes at most the registers `ds` and stores `n` bytes at address `a`. -/
def StoreKept (ds : List Reg) (a : Word) (n : Nat) (st t : State) : Prop :=
  RegsKeptBut ds st t ∧ PcKept st t ∧ t.cpsr = st.cpsr ∧ CoreKept st t ∧ MemKeptButStore a n st t

theorem StoreKept.refl (ds : List Reg) (a : Word) (n : Nat) (st : State) : StoreKept ds a n st st :=
  ⟨fun _ _ _ => rfl, ⟨rfl, rfl⟩, rfl, ⟨rfl, rfl, rfl, rfl, rfl⟩, fun _ _ => rfl⟩

/-- A store that was accepted, before its write-back. -/
theorem StoreEffect.kept {st s : State} (h : StoreEffect st s) {a : Word} {n : Nat} (hm : MemKeptButStore a n st s) :
    StoreKept [] a n st s := by
  obtain ⟨hregs, hc, hsp, hb, hr, hh, hd, hp⟩ := h.core
  have hreg : ∀ r, s.reg r = st.reg r := fun r => by simp only [State.reg, hregs]
  exact ⟨fun r _ _ => hreg r, ⟨hreg 15, hr⟩, hc, ⟨hsp, hb, hh, hd, hp⟩, hm⟩

/-- Write-back adds the base register to what a store changes (44 R241). -/
theorem StoreKept.writeBack {st s : State} {a : Word} {n : Nat} (h : StoreKept [] a n st s) {rn : Reg} {x : Transfer}
    (hw : x.wb = true → rn ≠ 15) : StoreKept (if x.wb = true then [rn] else []) a n st (s.writeBack rn x) := by
  unfold State.writeBack
  split
  · next hx =>
    obtain ⟨hregs, hpc, hc, hk, hm⟩ := h
    refine ⟨fun r h15 hr => ?_, ⟨?_, hpc.2⟩, hc, hk, hm⟩
    · rw [State.reg_setReg_ne _ _ (by simpa using hr)]
      exact hregs r h15 (by simp)
    · rw [State.reg_setReg_ne _ _ (hw hx).symm]
      exact hpc.1
  · exact h

/-- A store that ends otherwise than in a Data Abort keeps what the bus store kept, its base register aside. -/
theorem State.store_kept {st t : State} {rn : Reg} {x : Transfer} {v : Option State} {a : Word} {n : Nat}
    (hv : v ≠ none) (hw : x.wb = true → rn ≠ 15) (hk : ∀ s, v = some s → StoreKept [] a n st s)
    (h : st.store rn x v = .next t) : StoreKept (if x.wb = true then [rn] else []) a n st t := by
  obtain ⟨hn, _⟩ | ⟨s, hs, rfl⟩ := State.store_next h
  · exact absurd hn hv
  · exact (hk s hs).writeBack hw

theorem State.storeWord_kept {st s : State} {ea v : Word} (hm : Memory.wf st.mem = true)
    (h : st.storeWord ea v = some s) : StoreKept [] (align4 ea) 4 st s :=
  (State.store32_effect h).kept (State.store32_memKept hm h)

theorem State.storeHalf_kept {st s : State} {ea v : Word} (hm : Memory.wf st.mem = true)
    (h : st.storeHalf ea v = some s) : StoreKept [] (align2 ea) 2 st s :=
  (State.store16_effect h).kept (State.store16_memKept hm h)

theorem State.storeByte_kept {st s : State} {ea v : Word} (hm : Memory.wf st.mem = true)
    (h : st.storeByte ea v = some s) : StoreKept [] ea 1 st s :=
  (State.store8_effect h).kept (State.store8_memKept hm h)

/-- A store under its condition and its operand check, skipped or run without a Data Abort. -/
theorem State.guardedStore_kept {st t : State} {c : Cond} {u : Option Unpredictable} {rn : Reg} {x : Transfer}
    {v : Option State} {a : Word} {n : Nat} (hw : u = none → x.wb = true → rn ≠ 15) (hv : u = none → v ≠ none)
    (hk : ∀ s, v = some s → StoreKept [] a n st s) (h : st.ifPassed c (guarded u (st.store rn x v)) = .next t) :
    StoreKept (if x.wb = true then [rn] else []) a n st t := by
  obtain ⟨_, rfl⟩ | ⟨_, h⟩ := State.ifPassed_next.1 h
  · exact .refl _ _ _ _
  · obtain ⟨hu, h⟩ := guarded_next.1 h
    exact State.store_kept (hv hu) (hw hu) hk h

/-- The write-back of a transfer, as the claims put it (44 R240). -/
theorem transfer_wb (p u w : Bool) (base off : Word) :
    (transfer p u w base off).wb = true ↔ p = false ∨ w = true := by
  simp [transfer]

/-- Settles O27: a bus store that was accepted changes no register and, of memory, at most its own bytes; the write-back
adds the base register. -/
theorem storeFrame : Obligations.StoreFrame := by
  refine ⟨fun isByte c mode u rn rd off st t ea hm h hea hf => ?_, fun c p u w rn rd off st t ea hm h hea hf => ?_⟩
  · subst hea
    simp only [← transfer_wb mode.p u mode.w (st.reg rn) (off.value st)]
    cases isByte with
    | false =>
      exact State.guardedStore_kept sdtInstr_base_ne_pc (fun _ => hf) (fun _ => State.storeWord_kept hm)
        ((exec_str c mode u rn rd off st).symm.trans h)
    | true =>
      refine State.guardedStore_kept sdtInstr_base_ne_pc (fun hu => ?_) (fun _ => State.storeByte_kept hm)
        ((exec_strb c mode u rn rd off st).symm.trans h)
      rw [if_neg (strb_source_ne_pc hu)] at hf
      exact hf
  · subst hea
    simp only [← transfer_wb p u w (st.reg rn) (off.value st)]
    exact State.guardedStore_kept hwInstr_base_ne_pc (fun _ => hf) (fun _ => State.storeHalf_kept hm)
      ((exec_strh c p u w rn rd off st).symm.trans h)

end Sys2Proof.Machine
end

section
/-! PROOF. The registers of the core on the bus: where each register stands, and what a byte, a halfword or a word call
does there (20_memory R85, R92 to R94). -/

namespace Sys2Proof.Machine

/-! ## Where the register blocks stand -/

/-- The first offset of a block in bank 4 (20_memory R85). -/
def RegBlock.base : RegBlock → Nat
  | .dma => 0x0B0
  | .timers => 0x100
  | .power => 0x200

/-- The offsets that a block has, in its own frame (20_memory R85, R86). -/
def RegBlock.Has : RegBlock → Nat → Prop
  | .dma, off => off < 0x30
  | .timers, off => off < 0x10
  | .power, off => off < 0x0C ∨ off = 0x100 ∨ off = 0x101

/-- The address is the offset `off` of the block `b`. -/
def AtBlock (a : Word) (b : RegBlock) (off : Nat) : Prop := b.Has off ∧ a.toNat = 0x04000000 + b.base + off

/-- The core's registers are the offsets of its blocks. -/
theorem CoreRegister.block {a : Word} (h : CoreRegister a) : ∃ b off, AtBlock a b off := by
  obtain h | h | h | h | h := h
  · exact ⟨.dma, a.toNat - 0x040000B0, show _ < _ by omega, show _ = _ + 0x0B0 + _ by omega⟩
  · exact ⟨.timers, a.toNat - 0x04000100, show _ < _ by omega, show _ = _ + 0x100 + _ by omega⟩
  · exact ⟨.power, a.toNat - 0x04000200, .inl (by omega), show _ = _ + 0x200 + _ by omega⟩
  · exact ⟨.power, 0x100, .inr (.inl rfl), h⟩
  · exact ⟨.power, 0x101, .inr (.inr rfl), h⟩

/-- Bank 4 is the I/O sub-bus (20_memory R80, R85). -/
theorem target_io (p : Params) {a : Word} {o : Nat} (ho : o < 2 ^ 24) (ha : a.toNat = 0x04000000 + o) :
    target p a = ioTarget p o := by
  have hbank : a.toNat / 2 ^ 24 % 16 = 4 := by omega
  have hoff : a.toNat % 2 ^ 24 = o := by omega
  rw [target, if_neg (by omega), if_pos hbank, hoff]

theorem ioTarget_block (p : Params) {b : RegBlock} {off : Nat} (h : b.Has off) :
    ioTarget p (b.base + off) = .block b off := by
  cases b <;> simp only [RegBlock.Has, RegBlock.base] at h ⊢
  case dma => rw [ioTarget, if_pos (by omega), Nat.add_sub_cancel_left]
  case timers => rw [ioTarget, if_neg (by omega), if_pos (by omega), Nat.add_sub_cancel_left]
  case power =>
    rw [ioTarget, if_neg (by omega), if_neg (by omega), if_pos (by omega), Nat.add_sub_cancel_left]

theorem RegBlock.Has.lt {b : RegBlock} {off : Nat} (h : b.Has off) : b.base + off < 2 ^ 24 := by
  cases b <;> simp only [RegBlock.Has, RegBlock.base] at h ⊢ <;> omega

/-- A call to an address of a block arrives there (20_memory R73, R85). -/
theorem AtBlock.target {a : Word} {b : RegBlock} {off : Nat} (h : AtBlock a b off) (p : Params) :
    target p a = .block b off := by
  obtain ⟨hoff, ha⟩ := h
  rw [target_io p hoff.lt (ha.trans (Nat.add_assoc ..)), ioTarget_block p hoff]

/-- Both bytes of a halfword of a block belong to one register. -/
theorem RegBlock.reg_congr (b : RegBlock) {off off' : Nat} (h : off / 2 = off' / 2) : b.reg off = b.reg off' := by
  have h12 : off / 12 = off' / 12 := by omega
  have h4 : off / 4 = off' / 4 := by omega
  have hlo : off % 4 < 2 ↔ off' % 4 < 2 := by omega
  cases b <;> simp only [RegBlock.reg, h, h12, h4, hlo]

theorem align2_toNat (a : Word) : (align2 a).toNat = a.toNat - a.toNat % 2 := by
  have h : align2 a = (a >>> 1) <<< 1 := by
    ext i hi
    interval_cases i <;> simp [align2]
  rw [h, BitVec.toNat_shiftLeft, BitVec.toNat_ushiftRight, Nat.shiftRight_eq_div_pow, Nat.shiftLeft_eq]
  have := a.isLt
  omega

/-! ## Lanes -/

theorem getLsbD_append_bytes (x y : Byte) (i : Nat) :
    (x ++ y : Half).getLsbD i = if i < 8 then y.getLsbD i else x.getLsbD (i - 8) := BitVec.getLsbD_append

theorem getLsbD_append_halves (x y : Half) (i : Nat) :
    (x ++ y : Word).getLsbD i = if i < 16 then y.getLsbD i else x.getLsbD (i - 16) := BitVec.getLsbD_append

theorem withByte_zero (x : Half) (b : Byte) : withByte x 0 b = x.extractLsb' 8 8 ++ b := by
  refine BitVec.eq_of_getLsbD_eq fun i hi => ?_
  rw [getLsbD_append_bytes]
  interval_cases i <;> simp [withByte]

theorem withByte_one (x : Half) (b : Byte) : withByte x 1 b = b ++ x.extractLsb' 0 8 := by
  refine BitVec.eq_of_getLsbD_eq fun i hi => ?_
  rw [getLsbD_append_bytes]
  interval_cases i <;> simp [withByte]

theorem lane_lower (x : Half) (b : Byte) : (x &&& ~~~0x00FF) ||| ((0#8 ++ b) &&& 0x00FF) = withByte x 0 b := by
  rw [withByte_zero]
  refine BitVec.eq_of_getLsbD_eq fun i hi => ?_
  simp only [BitVec.getLsbD_or, BitVec.getLsbD_and, getLsbD_append_bytes]
  interval_cases i <;> simp

theorem lane_upper (x : Half) (b : Byte) : (x &&& ~~~0xFF00) ||| ((b ++ 0#8) &&& 0xFF00) = withByte x 1 b := by
  rw [withByte_one]
  refine BitVec.eq_of_getLsbD_eq fun i hi => ?_
  simp only [BitVec.getLsbD_or, BitVec.getLsbD_and, getLsbD_append_bytes]
  interval_cases i <;> simp

theorem lane_both (x v : Half) : (x &&& ~~~0xFFFF) ||| (v &&& 0xFFFF) = v := by
  ext i hi
  interval_cases i <;> simp

theorem and_lane_both (v : Half) : v &&& 0xFFFF = v := BitVec.and_allOnes

theorem and_lane_lower (b : Byte) : ((0#8 ++ b) &&& 0x00FF : Half) = 0#8 ++ b := by
  refine BitVec.eq_of_getLsbD_eq fun i hi => ?_
  rw [BitVec.getLsbD_and, getLsbD_append_bytes]
  interval_cases i <;> simp

theorem and_lane_upper (b : Byte) : ((b ++ 0#8) &&& 0xFF00 : Half) = b ++ 0#8 := by
  refine BitVec.eq_of_getLsbD_eq fun i hi => ?_
  rw [BitVec.getLsbD_and, getLsbD_append_bytes]
  interval_cases i <;> simp

theorem zeroByte_append (b : Byte) : (0#8 ++ b : Half) = b.setWidth 16 := by
  refine BitVec.eq_of_getLsbD_eq fun i hi => ?_
  rw [getLsbD_append_bytes]
  interval_cases i <;> simp

theorem withByte_lower_half (x : Word) (b : Byte) {k : Nat} (hk : k < 2) :
    withByte x k b = x.extractLsb' 16 16 ++ withByte (x.extractLsb' 0 16) k b := by
  refine BitVec.eq_of_getLsbD_eq fun i hi => ?_
  rw [getLsbD_append_halves]
  interval_cases k <;> interval_cases i <;> simp [withByte]

theorem withByte_upper_half (x : Word) (b : Byte) {k : Nat} (hk : k < 2) :
    withByte x (k + 2) b = withByte (x.extractLsb' 16 16) k b ++ x.extractLsb' 0 16 := by
  refine BitVec.eq_of_getLsbD_eq fun i hi => ?_
  rw [getLsbD_append_halves]
  interval_cases k <;> interval_cases i <;> simp [withByte]

/-! ## Calls to a block -/

theorem AtBlock.next {a : Word} {b : RegBlock} {off : Nat} (h : AtBlock a b off) {k : Nat} (hk : b.Has (off + k)) :
    AtBlock (a + BitVec.ofNat 32 k) b (off + k) := by
  obtain ⟨_, ha⟩ := h
  have hlt := hk.lt
  refine ⟨hk, ?_⟩
  rw [BitVec.toNat_add, BitVec.toNat_ofNat, ha]
  omega

/-- A block has whole halfwords. -/
theorem RegBlock.Has.halfword {b : RegBlock} {off off' : Nat} (h : b.Has off) (h2 : off / 2 = off' / 2) :
    b.Has off' := by
  cases b <;> simp only [RegBlock.Has] at h ⊢ <;> omega

/-- Every halfword of a block is a register of it (20_memory R86). -/
theorem RegBlock.Has.claimed {b : RegBlock} {off : Nat} (h : b.Has off) : b.reg off ≠ .unclaimed := by
  cases b with
  | dma =>
    have h6 : off / 2 % 6 < 6 := Nat.mod_lt _ (by decide)
    simp only [RegBlock.reg]
    interval_cases off / 2 % 6 <;> simp
  | timers =>
    simp only [RegBlock.reg]
    split <;> simp
  | power =>
    obtain h | rfl | rfl := h
    · interval_cases off <;> simp [RegBlock.reg]
    · decide
    · decide

/-- A load fails at no register (60 R471). -/
theorem IoReg.load_ne_none (p : Params) (d : Devices) (draw : Nat) {r : IoReg} (h : r ≠ .unclaimed) :
    r.load p d draw ≠ none := by
  cases r with
  | unclaimed => exact absurd rfl h
  | _ => exact Option.some_ne_none _

section
variable {a : Word} {b : RegBlock} {off : Nat} (h : AtBlock a b off) (s : State)
include h

theorem AtBlock.load16 : s.load16 a = (b.reg off).load s.params s.dev s.draws := by
  rw [State.load16, h.target]; rfl

theorem AtBlock.load16_ne_none : s.load16 a ≠ none := by
  rw [h.load16]
  exact IoReg.load_ne_none _ _ _ h.1.claimed

theorem AtBlock.store16 (v : Half) :
    s.store16 a v = some (s.withDev ((b.reg off).store s.params 0xFFFF v s.dev)) := by
  rw [State.store16, h.target]; rfl

/-- The even byte is the lower lane (20_memory R93). -/
theorem AtBlock.store8_lower (he : off % 2 = 0) (v : Byte) :
    s.store8 a v = some (s.withDev ((b.reg off).store s.params 0x00FF (0#8 ++ v) s.dev)) := by
  rw [State.store8, h.target]
  simp only [RegBlock.store8, he, if_true]
  rfl

/-- The odd byte is the upper lane (20_memory R93). -/
theorem AtBlock.store8_upper (he : off % 2 = 1) (v : Byte) :
    s.store8 a v = some (s.withDev ((b.reg off).store s.params 0xFF00 (v ++ 0#8) s.dev)) := by
  rw [State.store8, h.target]
  simp only [RegBlock.store8, he, one_ne_zero, if_false]
  rfl

/-- A byte load is the containing halfword, shifted (20_memory R92). -/
theorem AtBlock.load8 :
    s.load8 a = (s.load16 (align2 a)).map fun x : Half => BitVec.setWidth 8 (x >>> (8 * (a.toNat % 2))) := by
  have hb : b.base % 2 = 0 := by cases b <;> rfl
  have ha := h.2
  have heven : AtBlock (align2 a) b (off - off % 2) :=
    ⟨h.1.halfword (by omega), by rw [align2_toNat]; omega⟩
  rw [heven.load16, State.load8, h.target]
  simp only [RegBlock.load8, RegBlock.load16, b.reg_congr (show (off - off % 2) / 2 = off / 2 by omega)]
  rw [show a.toNat % 2 = off % 2 by omega]
  rfl

/-- A word call is two halfword calls, the lower first (20_memory R94). -/
theorem AtBlock.word (hw : b.Has (off + 2)) (x : Word) :
    (∃ lo hi, s.load16 a = some lo ∧ s.load16 (a + 2) = some hi ∧ s.load32 a = some (hi ++ lo)) ∧
      s.store32 a x = (s.store16 a (x.extractLsb' 0 16)).bind fun t => t.store16 (a + 2) (x.extractLsb' 16 16) := by
  have h2 : AtBlock (a + 2) b (off + 2) := h.next hw
  constructor
  · obtain ⟨lo, hlo⟩ := Option.ne_none_iff_exists'.1 (h.load16_ne_none s)
    obtain ⟨hi, hhi⟩ := Option.ne_none_iff_exists'.1 (h2.load16_ne_none s)
    refine ⟨lo, hi, hlo, hhi, ?_⟩
    rw [h.load16] at hlo
    rw [h2.load16] at hhi
    rw [State.load32, h.target]
    simp only [RegBlock.load32, RegBlock.load16, hlo, hhi]
  · rw [h.store16, Option.bind_some, h2.store16, State.store32, h.target]
    rfl

end

/-! ## Where the registers stand -/

/-- The halfword at the even address `a` is the register `r`. -/
def RegisterAt (a : Word) (r : IoReg) : Prop := ∃ b off, AtBlock a b off ∧ off % 2 = 0 ∧ b.reg off = r

section
variable {a : Word} {r : IoReg} (h : RegisterAt a r) (s : State)
include h

theorem RegisterAt.load16 : s.load16 a = r.load s.params s.dev s.draws := by
  obtain ⟨b, off, hat, _, rfl⟩ := h
  exact hat.load16 s

theorem RegisterAt.store16 (v : Half) : s.store16 a v = some (s.withDev (r.store s.params 0xFFFF v s.dev)) := by
  obtain ⟨b, off, hat, _, rfl⟩ := h
  exact hat.store16 s v

theorem RegisterAt.store8_lower (v : Byte) :
    s.store8 a v = some (s.withDev (r.store s.params 0x00FF (0#8 ++ v) s.dev)) := by
  obtain ⟨b, off, hat, he, rfl⟩ := h
  exact hat.store8_lower s he v

theorem RegisterAt.store8_upper (v : Byte) :
    s.store8 (a + 1) v = some (s.withDev (r.store s.params 0xFF00 (v ++ 0#8) s.dev)) := by
  obtain ⟨b, off, hat, he, rfl⟩ := h
  have hodd : AtBlock (a + 1) b (off + 1) := hat.next (k := 1) (hat.1.halfword (by omega))
  rw [b.reg_congr (show off / 2 = (off + 1) / 2 by omega)]
  exact hodd.store8_upper s (by omega) v

end

theorem dmaAddress_atBlock (ch : Fin 4) {k : Nat} (hk : k < 12) : AtBlock (dmaAddress ch k) .dma (12 * ch.val + k) := by
  have hch := ch.isLt
  refine ⟨show _ < 0x30 by omega, ?_⟩
  rw [dmaAddress, BitVec.toNat_add, BitVec.toNat_ofNat]
  change (0x040000B0 + _ % _) % _ = 0x04000000 + 0x0B0 + _
  omega

theorem timerAddress_atBlock (t : Fin 4) {k : Nat} (hk : k < 4) :
    AtBlock (timerAddress t k) .timers (4 * t.val + k) := by
  have ht := t.isLt
  refine ⟨show _ < 0x10 by omega, ?_⟩
  rw [timerAddress, BitVec.toNat_add, BitVec.toNat_ofNat]
  change (0x04000100 + _ % _) % _ = 0x04000000 + 0x100 + _
  omega

theorem dmaAddress_add (ch : Fin 4) (n k : Nat) : dmaAddress ch (n + k) = dmaAddress ch n + BitVec.ofNat 32 k := by
  rw [dmaAddress, dmaAddress, ← Nat.add_assoc, BitVec.ofNat_add, ← BitVec.add_assoc]

theorem timerAddress_add (t : Fin 4) (n k : Nat) :
    timerAddress t (n + k) = timerAddress t n + BitVec.ofNat 32 k := by
  rw [timerAddress, timerAddress, ← Nat.add_assoc, BitVec.ofNat_add, ← BitVec.add_assoc]

/-- A register of a DMA channel, by its even place `k` in the channel (10_state R51). -/
theorem dmaRegisterAt {ch : Fin 4} {k : Nat} {r : IoReg} (hk : k < 12) (he : k % 2 = 0)
    (hr : RegBlock.dma.reg (12 * ch.val + k) = r) : RegisterAt (dmaAddress ch k) r :=
  ⟨.dma, _, dmaAddress_atBlock ch hk, by omega, hr⟩

theorem timerRegisterAt {t : Fin 4} {k : Nat} {r : IoReg} (hk : k < 4) (he : k % 2 = 0)
    (hr : RegBlock.timers.reg (4 * t.val + k) = r) : RegisterAt (timerAddress t k) r :=
  ⟨.timers, _, timerAddress_atBlock t hk, by omega, hr⟩

theorem registerAt_dmaSadLo (ch : Fin 4) : RegisterAt (dmaAddress ch 0) (.dmaSadLo ch) :=
  dmaRegisterAt (by decide) rfl (by fin_cases ch <;> rfl)

theorem registerAt_dmaSadHi (ch : Fin 4) : RegisterAt (dmaAddress ch 2) (.dmaSadHi ch) :=
  dmaRegisterAt (by decide) rfl (by fin_cases ch <;> rfl)

theorem registerAt_dmaDadLo (ch : Fin 4) : RegisterAt (dmaAddress ch 4) (.dmaDadLo ch) :=
  dmaRegisterAt (by decide) rfl (by fin_cases ch <;> rfl)

theorem registerAt_dmaDadHi (ch : Fin 4) : RegisterAt (dmaAddress ch 6) (.dmaDadHi ch) :=
  dmaRegisterAt (by decide) rfl (by fin_cases ch <;> rfl)

theorem registerAt_dmaCount (ch : Fin 4) : RegisterAt (dmaAddress ch 8) (.dmaCount ch) :=
  dmaRegisterAt (by decide) rfl (by fin_cases ch <;> rfl)

theorem registerAt_dmaControl (ch : Fin 4) : RegisterAt (dmaAddress ch 10) (.dmaControl ch) :=
  dmaRegisterAt (by decide) rfl (by fin_cases ch <;> rfl)

theorem registerAt_timerCounter (t : Fin 4) : RegisterAt (timerAddress t 0) (.timerCounter t) :=
  timerRegisterAt (by decide) rfl (by fin_cases t <;> rfl)

theorem registerAt_timerControl (t : Fin 4) : RegisterAt (timerAddress t 2) (.timerControl t) :=
  timerRegisterAt (by decide) rfl (by fin_cases t <;> rfl)

theorem registerAt_interruptEnable : RegisterAt 0x04000200 .interruptEnable :=
  ⟨.power, 0, ⟨.inl (by decide), rfl⟩, rfl, rfl⟩

theorem registerAt_interruptFlags : RegisterAt 0x04000202 .interruptFlags :=
  ⟨.power, 2, ⟨.inl (by decide), rfl⟩, rfl, rfl⟩

theorem registerAt_waitControl : RegisterAt 0x04000204 .waitControl :=
  ⟨.power, 4, ⟨.inl (by decide), rfl⟩, rfl, rfl⟩

theorem registerAt_padding : RegisterAt 0x04000206 .padding ∧ RegisterAt 0x0400020A .padding :=
  ⟨⟨.power, 6, ⟨.inl (by decide), rfl⟩, rfl, rfl⟩, ⟨.power, 10, ⟨.inl (by decide), rfl⟩, rfl, rfl⟩⟩

theorem registerAt_masterEnable : RegisterAt 0x04000208 .masterEnable :=
  ⟨.power, 8, ⟨.inl (by decide), rfl⟩, rfl, rfl⟩

theorem postHalt_atBlock : AtBlock 0x04000300 .power 0x100 := ⟨.inr (.inl rfl), rfl⟩

theorem registerAt_postHalt : RegisterAt 0x04000300 .postHalt := ⟨.power, 0x100, postHalt_atBlock, rfl, rfl⟩

/-! ## Registers that take what is stored -/

/-- A byte store to a 16-bit register that takes the lanes of a store (20_memory R93). -/
theorem RegisterAt.store8_half {a : Word} {r : IoReg} (h : RegisterAt a r) {s : State} {old : Half}
    {set : Half → Devices}
    (hr : ∀ mask v, r.store s.params mask v s.dev = set ((old &&& ~~~mask) ||| (v &&& mask))) (b : Byte) {k : Nat}
    (hk : k < 2) : s.store8 (a + BitVec.ofNat 32 k) b = some (s.withDev (set (withByte old k b))) := by
  interval_cases k
  · rw [BitVec.add_zero, h.store8_lower, hr, lane_lower]
  · rw [← lane_upper, ← hr]
    exact h.store8_upper s b

/-- `lo` and `hi` are the halves of one 32-bit register, with `get` to read it and `set` to replace it. -/
structure HalvesOf (lo hi : IoReg) (get : Devices → Word) (set : Devices → Word → Devices) : Prop where
  lower : ∀ p mask v d, lo.store p mask v d = set d (mergeLo (get d) mask v)
  upper : ∀ p mask v d, hi.store p mask v d = set d (mergeHi (get d) mask v)
  get_set : ∀ d w, get (set d w) = w
  set_set : ∀ d w w', set (set d w) w' = set d w'

section
variable {a : Word} {lo hi : IoReg} {get : Devices → Word} {set : Devices → Word → Devices}
  (h : HalvesOf lo hi get set) (hlo : RegisterAt a lo) (hhi : RegisterAt (a + 2) hi) (s : State)
include h hlo hhi

/-- A byte store to a 32-bit register (20_memory R93). -/
theorem HalvesOf.store8 (b : Byte) {k : Nat} (hk : k < 4) :
    s.store8 (a + BitVec.ofNat 32 k) b = some (s.withDev (set s.dev (withByte (get s.dev) k b))) := by
  obtain hk | ⟨j, hj, rfl⟩ : k < 2 ∨ ∃ j < 2, k = j + 2 := by
    by_cases h2 : k < 2
    · exact .inl h2
    · exact .inr ⟨k - 2, by omega, by omega⟩
  · rw [withByte_lower_half _ _ hk]
    exact hlo.store8_half (set := fun x => set s.dev ((get s.dev).extractLsb' 16 16 ++ x)) (fun _ _ => h.lower ..) b hk
  · rw [withByte_upper_half _ _ hj, Nat.add_comm, BitVec.ofNat_add, ← BitVec.add_assoc]
    exact hhi.store8_half (set := fun x => set s.dev (x ++ (get s.dev).extractLsb' 0 16)) (fun _ _ => h.upper ..) b hj

/-- A word store to a 32-bit register (20_memory R94). -/
theorem HalvesOf.store32 (x : Word)
    (hw : s.store32 a x = (s.store16 a (x.extractLsb' 0 16)).bind fun t => t.store16 (a + 2) (x.extractLsb' 16 16)) :
    s.store32 a x = some (s.withDev (set s.dev x)) := by
  have hx : mergeHi (mergeLo (get s.dev) 0xFFFF (x.extractLsb' 0 16)) 0xFFFF (x.extractLsb' 16 16) = x := by
    simp only [mergeHi, mergeLo, lane_both]
    rw [show BitVec.extractLsb' 0 16 (_ ++ x.extractLsb' 0 16 : Word) = x.extractLsb' 0 16 from
      BitVec.extractLsb'_append_eq_right]
    exact (BitVec.extractLsb'_append_extractLsb'_eq_extractLsb' rfl).trans BitVec.extractLsb'_eq_self
  rw [hw, hlo.store16, Option.bind_some, hhi.store16, h.lower]
  simp only [State.withDev, h.upper, h.get_set, h.set_set, hx]

end

theorem halvesOf_sad (ch : Fin 4) : HalvesOf (.dmaSadLo ch) (.dmaSadHi ch) (fun d => d.dma[ch].sad)
    fun d w => d.setDma ch { d.dma[ch] with sad := w } where
  lower _ _ _ _ := rfl
  upper _ _ _ _ := rfl
  get_set d w := by simp [Devices.setDma]
  set_set d w w' := by simp [Devices.setDma]

theorem halvesOf_dad (ch : Fin 4) : HalvesOf (.dmaDadLo ch) (.dmaDadHi ch) (fun d => d.dma[ch].dad)
    fun d w => d.setDma ch { d.dma[ch] with dad := w } where
  lower _ _ _ _ := rfl
  upper _ _ _ _ := rfl
  get_set d w := by simp [Devices.setDma]
  set_set d w w' := by simp [Devices.setDma]

/-! ## Registers that read as they were written -/

/-- The 16-bit registers whose value a load gives and a store takes (20_memory R93). -/
def IoReg.ReadsBack : IoReg → Prop
  | .interruptEnable | .waitControl | .masterEnable | .dmaControl _ => True
  | _ => False

/-- A store of one lane is the halfword store of the value with that lane replaced (20_memory R93). -/
theorem IoReg.ReadsBack.store_lanes {r : IoReg} (hr : r.ReadsBack) {p : Params} {d : Devices} {draw : Nat} {h : Half}
    (hl : r.load p d draw = some h) (b : Byte) :
    r.store p 0x00FF (0#8 ++ b) d = r.store p 0xFFFF (withByte h 0 b) d ∧
      r.store p 0xFF00 (b ++ 0#8) d = r.store p 0xFFFF (withByte h 1 b) d := by
  cases r with
  | interruptEnable | waitControl | dmaControl =>
    obtain rfl := Option.some.inj hl
    simp only [IoReg.store, Devices.storeEnable, Devices.storeDmaControl, lane_lower, lane_upper, lane_both, and_self]
  | masterEnable =>
    obtain rfl := Option.some.inj hl
    simp only [IoReg.store, Devices.storeMaster, withByte_zero, withByte_one, getLsbD_append_bytes]
    simp
  | _ => exact hr.elim

/-- A byte store to such a register is the halfword store of the merged value. -/
theorem RegisterAt.store8_merged {a : Word} {r : IoReg} (h : RegisterAt a r) (hr : r.ReadsBack) {s : State} {x : Half}
    (hl : s.load16 a = some x) (b : Byte) :
    s.store8 a b = s.store16 a (x.extractLsb' 8 8 ++ b) ∧
      s.store8 (a + 1) b = s.store16 a (b ++ x.extractLsb' 0 8) := by
  rw [h.load16] at hl
  obtain ⟨hlo, hhi⟩ := hr.store_lanes hl b
  rw [h.store8_lower, h.store8_upper, h.store16, h.store16, hlo, hhi, withByte_zero, withByte_one]
  exact ⟨rfl, rfl⟩

/-! ## The timer control word -/

theorem TimerControl.toWord_upper (c : TimerControl) : c.toWord.extractLsb' 8 8 = 0#8 := by
  obtain ⟨prescaler, cascade, irq, start⟩ := c
  revert prescaler
  cases cascade <;> cases irq <;> cases start <;> decide

/-- The upper byte of timer control is not state (10_state R58). -/
theorem Devices.storeTimerControl_lower (p : Params) (t : Fin 4) (b : Byte) (d : Devices) :
    d.storeTimerControl p t 0x00FF (0#8 ++ b) = d.storeTimerControl p t 0xFFFF (0#8 ++ b) := by
  have hw : (d.timers[t].control.toWord &&& ~~~0x00FF) ||| ((0#8 ++ b) &&& 0x00FF) = (0#8 ++ b : Half) := by
    rw [lane_lower, withByte_zero, TimerControl.toWord_upper]
  simp only [Devices.storeTimerControl, hw, lane_both]
  rfl

/-! ## Words, and the stores to each block -/

section
variable (s : State)

/-- Word calls to the registers, but for the word at POSTFLG, whose upper half is nobody's (log entry 17). -/
theorem CoreRegister.word {a : Word} (h : CoreRegister a) (ha : a.toNat % 4 = 0) (hp : a ≠ 0x04000300) (x : Word) :
    (∃ lo hi, s.load16 a = some lo ∧ s.load16 (a + 2) = some hi ∧ s.load32 a = some (hi ++ lo)) ∧
      s.store32 a x = (s.store16 a (x.extractLsb' 0 16)).bind fun t => t.store16 (a + 2) (x.extractLsb' 16 16) := by
  obtain ⟨b, off, hat⟩ := h.block
  refine hat.word s ?_ x
  obtain ⟨hoff, hn⟩ := hat
  have hne : a.toNat ≠ 0x04000300 := fun e => hp (BitVec.eq_of_toNat_eq e)
  cases b <;> simp only [RegBlock.Has, RegBlock.base] at hoff hn ⊢ <;> omega

/-- The upper half of the word at POSTFLG is nobody's: the word load fails (log entry 17). -/
theorem load32_postHalt : s.load32 0x04000300 = none := by
  rw [State.load32, postHalt_atBlock.target]
  rfl

/-- The upper half of the word at POSTFLG is nobody's: its store is ignored (log entry 17). -/
theorem store32_postHalt (x : Word) : s.store32 0x04000300 x = s.store16 0x04000300 (x.extractLsb' 0 16) := by
  rw [State.store32, State.store16, postHalt_atBlock.target]
  rfl

/-- The lower lane of the register is POSTFLG (10_state R47). -/
theorem IoReg.store_postHalt_lower (p : Params) (b : Byte) (d : Devices) :
    IoReg.postHalt.store p 0x00FF (0#8 ++ b) d = { d with postflg := b } := by
  have hb : (0#8 ++ b : Half).extractLsb' 0 8 = b := BitVec.extractLsb'_append_eq_right
  simp [IoReg.store, hb]

/-- The upper lane of the register is HALTCNT (60 R450). -/
theorem IoReg.store_postHalt_upper (p : Params) (b : Byte) (d : Devices) :
    IoReg.postHalt.store p 0xFF00 (b ++ 0#8) d = d.haltControl b := by
  have hb : (b ++ 0#8 : Half).extractLsb' 8 8 = b := BitVec.extractLsb'_append_eq_left
  simp [IoReg.store, hb]

/-- The stores to the registers of a DMA channel (60 R471, R472). -/
theorem store_dmaRegisters (ch : Fin 4) (v : Half) (b : Byte) (x : Word) :
    s.store16 (dmaAddress ch 10) v = some (s.withDev (s.dev.storeDmaControl s.params ch 0xFFFF v)) ∧
      s.store32 (dmaAddress ch 0) x = some (s.withDev (s.dev.setDma ch { s.dev.dma[ch] with sad := x })) ∧
      s.store32 (dmaAddress ch 4) x = some (s.withDev (s.dev.setDma ch { s.dev.dma[ch] with dad := x })) ∧
      s.store16 (dmaAddress ch 8) v = some (s.withDev (s.dev.setDma ch { s.dev.dma[ch] with cnt := v })) ∧
      (∀ k, k < 4 →
        s.store8 (dmaAddress ch k) b =
          some (s.withDev (s.dev.setDma ch { s.dev.dma[ch] with sad := withByte s.dev.dma[ch].sad k b })) ∧
        s.store8 (dmaAddress ch (4 + k)) b =
          some (s.withDev (s.dev.setDma ch { s.dev.dma[ch] with dad := withByte s.dev.dma[ch].dad k b }))) ∧
      ∀ k, k < 2 → s.store8 (dmaAddress ch (8 + k)) b =
        some (s.withDev (s.dev.setDma ch { s.dev.dma[ch] with cnt := withByte s.dev.dma[ch].cnt k b })) := by
  have hsad : RegisterAt (dmaAddress ch 0 + 2) (.dmaSadHi ch) := dmaAddress_add ch 0 2 ▸ registerAt_dmaSadHi ch
  have hdad : RegisterAt (dmaAddress ch 4 + 2) (.dmaDadHi ch) := dmaAddress_add ch 4 2 ▸ registerAt_dmaDadHi ch
  refine ⟨(registerAt_dmaControl ch).store16 s v, ?_, ?_, ?_, fun k hk => ⟨?_, ?_⟩, fun k hk => ?_⟩
  · exact (halvesOf_sad ch).store32 (registerAt_dmaSadLo ch) hsad s x
      ((dmaAddress_atBlock ch (k := 0) (by decide)).word s (dmaAddress_atBlock ch (k := 2) (by decide)).1 x).2
  · exact (halvesOf_dad ch).store32 (registerAt_dmaDadLo ch) hdad s x
      ((dmaAddress_atBlock ch (k := 4) (by decide)).word s (dmaAddress_atBlock ch (k := 6) (by decide)).1 x).2
  · rw [(registerAt_dmaCount ch).store16, IoReg.store, lane_both]
  · rw [← Nat.zero_add k, dmaAddress_add, Nat.zero_add]
    exact (halvesOf_sad ch).store8 (registerAt_dmaSadLo ch) hsad s b hk
  · rw [dmaAddress_add]
    exact (halvesOf_dad ch).store8 (registerAt_dmaDadLo ch) hdad s b hk
  · rw [dmaAddress_add]
    exact (registerAt_dmaCount ch).store8_half
      (set := fun h => s.dev.setDma ch { s.dev.dma[ch] with cnt := h }) (fun _ _ => rfl) b hk

/-- The stores to the registers of a timer (60 R484 to R486). -/
theorem store_timerRegisters (t : Fin 4) (v : Half) (b : Byte) :
    s.store16 (timerAddress t 0) v = some (s.withDev (s.dev.setTimer t { s.dev.timers[t] with reload := v })) ∧
      (∀ k, k < 2 → s.store8 (timerAddress t k) b =
        some (s.withDev (s.dev.setTimer t { s.dev.timers[t] with reload := withByte s.dev.timers[t].reload k b }))) ∧
      s.store16 (timerAddress t 2) v = some (s.withDev (s.dev.storeTimerControl s.params t 0xFFFF v)) ∧
      s.store8 (timerAddress t 2) b = some (s.withDev (s.dev.storeTimerControl s.params t 0xFFFF (0#8 ++ b))) ∧
      s.store8 (timerAddress t 3) b = some s := by
  refine ⟨?_, fun k hk => ?_, (registerAt_timerControl t).store16 s v, ?_, ?_⟩
  · rw [(registerAt_timerCounter t).store16, IoReg.store, Devices.storeReload, lane_both]
  · rw [← Nat.zero_add k, timerAddress_add, Nat.zero_add]
    exact (registerAt_timerCounter t).store8_half
      (set := fun h => s.dev.setTimer t { s.dev.timers[t] with reload := h }) (fun _ _ => rfl) b hk
  · rw [(registerAt_timerControl t).store8_lower, IoReg.store, Devices.storeTimerControl_lower]
  · rw [timerAddress_add t 2 1]
    exact (registerAt_timerControl t).store8_upper s b

end

/-- Settles O56: each address is placed in its block, where the rules of the blocks say what a call does. -/
theorem registersOnTheBus : Obligations.RegistersOnTheBus := by
  intro s v b x
  refine ⟨registerAt_interruptEnable.load16 s, registerAt_interruptFlags.load16 s, registerAt_waitControl.load16 s,
    registerAt_padding.1.load16 s, registerAt_masterEnable.load16 s, registerAt_padding.2.load16 s,
    registerAt_postHalt.load16 s, fun ch => ⟨(registerAt_dmaControl ch).load16 s, fun k hk => ?_⟩,
    fun t => ⟨(registerAt_timerCounter t).load16 s, (registerAt_timerControl t).load16 s⟩,
    fun a ha => ?_, fun a ha h4 hp => ha.word s h4 hp x, ?_, ?_, ?_, ?_, ?_, ?_, ?_, ?_, ?_, ?_, ?_,
    fun a h ha hl => ?_, fun ch => store_dmaRegisters s ch v b x, fun t => store_timerRegisters s t v b⟩
  · exact (dmaAddress_atBlock ch (by omega)).load16_ne_none s
  · obtain ⟨_, _, hat⟩ := ha.block
    exact hat.load8 s
  · exact load32_postHalt s
  · exact store32_postHalt s x
  · rw [registerAt_interruptEnable.store16, IoReg.store, Devices.storeEnable, lane_both]
  · rw [registerAt_interruptFlags.store16, IoReg.store, Devices.storePending, and_lane_both]
  · rw [registerAt_interruptFlags.store8_lower, IoReg.store, Devices.storePending, and_lane_lower, zeroByte_append,
      BitVec.setWidth_setWidth_of_le]
    decide
  · refine (registerAt_interruptFlags.store8_upper s b).trans ?_
    rw [IoReg.store, Devices.storePending, and_lane_upper]
  · rw [registerAt_waitControl.store16, IoReg.store, lane_both]
  · exact registerAt_masterEnable.store16 s v
  · rw [registerAt_postHalt.store8_lower, IoReg.store_postHalt_lower]
  · refine (registerAt_postHalt.store8_upper s b).trans ?_
    rw [IoReg.store_postHalt_upper]
  · exact registerAt_postHalt.store16 s v
  · obtain rfl | rfl | rfl | ⟨ch, rfl⟩ := ha
    · exact registerAt_interruptEnable.store8_merged trivial hl b
    · exact registerAt_waitControl.store8_merged trivial hl b
    · exact registerAt_masterEnable.store8_merged trivial hl b
    · exact (registerAt_dmaControl ch).store8_merged trivial hl b

end Sys2Proof.Machine
end

section
/-! PROOF. Words as fields laid side by side: an assembled number is read back field by field (30_encoding R114,
R125). -/

namespace Sys2Proof.Encoding

/-! ## Entries -/

/-- What a number is assembled from: a field that a row fixes, or an operand's value and its lowest bit. -/
inductive Entry where
  | fixed (f : Fixed)
  | operand (lo value : Nat)

def Entry.lo : Entry → Nat
  | .fixed f => f.lo
  | .operand lo _ => lo

def Entry.value : Entry → Nat
  | .fixed f => f.value
  | .operand _ v => v

@[simp] theorem Entry.lo_fixed (f : Fixed) : (Entry.fixed f).lo = f.lo := rfl
@[simp] theorem Entry.lo_operand (lo v : Nat) : (Entry.operand lo v).lo = lo := rfl
@[simp] theorem Entry.value_fixed (f : Fixed) : (Entry.fixed f).value = f.value := rfl
@[simp] theorem Entry.value_operand (lo v : Nat) : (Entry.operand lo v).value = v := rfl

/-- The number with each entry at its place. -/
def number (es : List Entry) : Nat := placed (es.map fun e => (e.lo, e.value))

theorem number_cons (e : Entry) (es : List Entry) : number (e :: es) = e.value * 2 ^ e.lo + number es := rfl

/-- The value is one of an `n`-bit field. -/
def FitsIn (n v : Nat) : Prop := v < 2 ^ n

theorem fitsIn_toNat {n : Nat} (v : BitVec n) : FitsIn n v.toNat := v.isLt
theorem fitsIn_bit (b : Bool) : FitsIn 1 b.toNat := b.toNat_lt
theorem fitsIn_cond (c : Cond) : FitsIn 4 c.code := c.code_lt
theorem fitsIn_shift (s : Shift) : FitsIn 2 s.code := s.code_lt

/-- The entries, from the highest down, fill the bits below `t` without a gap. -/
def Tiles : Nat → List Entry → Prop
  | t, [] => t = 0
  | t, .fixed f :: es => (f.lo < t ∧ f.hi + 1 = t ∧ f.value < 2 ^ (t - f.lo)) ∧ Tiles f.lo es
  | t, .operand lo v :: es => (lo < t ∧ FitsIn (t - lo) v) ∧ Tiles lo es

/-- The word holds the operands among the entries, which fill its bits below `t`. -/
def Reads {k : Nat} (w : BitVec k) : Nat → List Entry → Prop
  | _, [] => True
  | _, .fixed f :: es => Reads w f.lo es
  | t, .operand lo v :: es => slice (t - 1) lo w = v ∧ Reads w lo es

theorem Tiles.head {t : Nat} {e : Entry} {es : List Entry} (h : Tiles t (e :: es)) :
    e.lo < t ∧ e.value < 2 ^ (t - e.lo) ∧ Tiles e.lo es := by
  cases e with
  | fixed f => exact ⟨h.1.1, h.1.2.2, h.2⟩
  | operand lo v => exact ⟨h.1.1, h.1.2, h.2⟩

/-! ## Reading the assembled number -/

theorem mul_add_eq_iff {b q q' r r' : Nat} (h : r < b) (h' : r' < b) :
    q * b + r = q' * b + r' ↔ q = q' ∧ r = r' := by
  refine ⟨fun e => ?_, fun ⟨hq, hr⟩ => by rw [hq, hr]⟩
  have hb : 0 < b := by omega
  have hq := congrArg (· / b) e
  simp only [Nat.mul_comm _ b, Nat.mul_add_div hb, Nat.div_eq_of_lt h, Nat.div_eq_of_lt h', Nat.add_zero] at hq
  subst hq
  exact ⟨rfl, Nat.add_left_cancel e⟩

/-- The bits below `t` are a field from `lo` up and the bits below `lo`. -/
theorem mod_two_pow_split {k : Nat} (w : BitVec k) {lo t : Nat} (h : lo < t) :
    w.toNat % 2 ^ t = slice (t - 1) lo w * 2 ^ lo + w.toNat % 2 ^ lo := by
  obtain ⟨n, rfl⟩ := Nat.exists_eq_add_of_le h.le
  rw [slice, Nat.sub_add_cancel (by omega), Nat.add_sub_cancel_left, Nat.pow_add, Nat.mod_mul, Nat.mul_comm,
    Nat.add_comm]

theorem number_lt {t : Nat} {es : List Entry} (h : Tiles t es) : number es < 2 ^ t := by
  induction es generalizing t with
  | nil => exact Nat.two_pow_pos t
  | cons e es ih =>
    obtain ⟨hlo, hv, hes⟩ := h.head
    have hlt := ih hes
    calc e.value * 2 ^ e.lo + number es < (e.value + 1) * 2 ^ e.lo := by rw [Nat.add_mul]; omega
      _ ≤ 2 ^ (t - e.lo) * 2 ^ e.lo := Nat.mul_le_mul_right _ hv
      _ = 2 ^ t := by rw [← Nat.pow_add, Nat.sub_add_cancel hlo.le]

/-- The bits below `t` are the entries' number exactly where each entry is read at its place. -/
theorem mod_eq_number_iff {k t : Nat} (w : BitVec k) {es : List Entry} (h : Tiles t es) :
    w.toNat % 2 ^ t = number es ↔ (∀ f, .fixed f ∈ es → slice f.hi f.lo w = f.value) ∧ Reads w t es := by
  induction es generalizing t with
  | nil =>
    obtain rfl := h
    simp [number, placed, Reads, Nat.mod_one]
  | cons e es ih =>
    obtain ⟨hlo, hv, hes⟩ := h.head
    rw [mod_two_pow_split w hlo, number_cons, mul_add_eq_iff (Nat.mod_lt _ (Nat.two_pow_pos _)) (number_lt hes), ih hes]
    cases e with
    | fixed f =>
      obtain ⟨⟨_, rfl, _⟩, _⟩ := h
      simp [Reads, and_assoc]
    | operand lo v => simp [Reads, and_left_comm]

/-! ## A row's fixed fields among the operands -/

/-- The fixed fields of a row put among the fields of an encoding, from the highest down. -/
def entries {k : Nat} (r : Row k) (fields : List (Nat × Nat)) : List Entry :=
  r.fixed.foldr (fun f => List.orderedInsert (fun a b => b.lo ≤ a.lo) (.fixed f)) (fields.map fun e => .operand e.1 e.2)

/-- The row's match value (30_encoding R114). -/
def matchValue {k : Nat} (r : Row k) : Nat := placed (r.fixed.map fun f => (f.lo, f.value))

theorem number_orderedInsert (e : Entry) (es : List Entry) :
    number (es.orderedInsert (fun a b => b.lo ≤ a.lo) e) = number (e :: es) := by
  induction es with
  | nil => rfl
  | cons d es ih =>
    rw [List.orderedInsert]
    split
    · rfl
    · rw [number_cons, ih, number_cons, number_cons, number_cons]
      omega

theorem number_entries {k : Nat} (r : Row k) (fields : List (Nat × Nat)) :
    number (entries r fields) = matchValue r + placed fields := by
  unfold entries matchValue
  induction r.fixed with
  | nil => simp [number, placed, Function.comp_def]
  | cons f fs ih =>
    rw [List.foldr_cons, number_orderedInsert, number_cons, ih, List.map_cons, placed, Nat.add_assoc]
    rfl

theorem fixed_mem_entries {k : Nat} (r : Row k) (fields : List (Nat × Nat)) (f : Fixed) :
    .fixed f ∈ entries r fields ↔ f ∈ r.fixed := by
  unfold entries
  induction r.fixed with
  | nil => simp
  | cons g gs ih => simp [List.mem_orderedInsert, ih]

/-- A word is the row's match value with the fields in place exactly where it fits the row and holds the fields. -/
theorem ofNat_eq_iff {k : Nat} (r : Row k) {fields : List (Nat × Nat)} (h : Tiles k (entries r fields)) (w : BitVec k) :
    BitVec.ofNat k (matchValue r + placed fields) = w ↔ r.fits w = true ∧ Reads w k (entries r fields) := by
  rw [← number_entries, ← BitVec.toNat_inj, BitVec.toNat_ofNat, Nat.mod_eq_of_lt (number_lt h), eq_comm,
    ← Nat.mod_eq_of_lt w.isLt, mod_eq_number_iff w h]
  simp [Row.fits, fixed_mem_entries]

/-! ## What the field readers read -/

theorem slice_lt {k : Nat} (w : BitVec k) (lo n : Nat) : slice (lo + n) lo w < 2 ^ (n + 1) := by
  rw [slice, show lo + n + 1 - lo = n + 1 by omega]
  exact Nat.mod_lt _ (Nat.two_pow_pos _)

theorem ofCode_eq_cond_iff {n : Nat} (h : n < 16) (c : Cond) : Cond.ofCode n = c ↔ n = c.code := by
  refine ⟨?_, fun e => by rw [e, Cond.ofCode_code]⟩
  rintro rfl
  interval_cases n <;> rfl

theorem ofCode_eq_shift_iff {n : Nat} (h : n < 4) (s : Shift) : Shift.ofCode n = s ↔ n = s.code := by
  refine ⟨?_, fun e => by rw [e, Shift.ofCode_code]⟩
  rintro rfl
  interval_cases n <;> rfl

theorem condAt_eq_iff {k : Nat} (lo : Nat) (w : BitVec k) (c : Cond) :
    condAt lo w = c ↔ slice (lo + 3) lo w = c.code :=
  ofCode_eq_cond_iff (slice_lt w lo 3) c

theorem shiftAt_eq_iff {k : Nat} (lo : Nat) (w : BitVec k) (s : Shift) :
    shiftAt lo w = s ↔ slice (lo + 1) lo w = s.code :=
  ofCode_eq_shift_iff (slice_lt w lo 1) s

theorem fieldAt_eq_iff {k n : Nat} (hn : 0 < n) (lo : Nat) (w : BitVec k) (v : BitVec n) :
    fieldAt lo n w = v ↔ slice (lo + n - 1) lo w = v.toNat := by
  rw [← BitVec.toNat_inj, fieldAt, BitVec.toNat_ofNat, slice, show lo + n - 1 + 1 - lo = n by omega]

theorem bitAt_eq_iff {k : Nat} (lo : Nat) (w : BitVec k) (b : Bool) :
    bitAt lo w = b ↔ slice lo lo w = b.toNat := by
  rw [bitAt, slice, show lo + 1 - lo = 1 by omega]
  rcases Nat.mod_two_eq_zero_or_one (w.toNat / 2 ^ lo) with h | h <;> cases b <;> simp [h]

end Sys2Proof.Encoding
end

section
/-! PROOF. Decoding and encoding agree (30_encoding R114, R125, R139): the row of an instruction's constructor reads
exactly the codes that its encoding writes. -/

namespace Sys2Proof.Encoding

/-! ## The row of an instruction -/

/-- A row of either width. -/
inductive TableRow where
  | wide (r : Row 32)
  | narrow (r : Row 16)

/-- The opcode table, in the order of the instruction set. -/
def table : List TableRow := wideRows.map .wide ++ narrowRows.map .narrow

/-- The row of an instruction: its constructor's number is its place in the table. -/
def rowOf (i : Instr) : Option TableRow := table[i.ctorIdx]?

/-- The code fits the row, which reads `i` from it. -/
def TableRow.Reads : TableRow → Code → Instr → Prop
  | .wide r, .wide w, i => r.fits w = true ∧ r.build w = i
  | .narrow r, .narrow h, i => r.fits h = true ∧ r.build h = i
  | _, _, _ => False

theorem wideRows_ctorIdx (w : Word) : wideRows.map (fun r => (r.build w).ctorIdx) = List.range wideRows.length := (rfl)

theorem narrowRows_ctorIdx (h : Half) :
    narrowRows.map (fun r => (r.build h).ctorIdx) = List.range' wideRows.length narrowRows.length := (rfl)

theorem rowOf_build_wide {r : Row 32} (hr : r ∈ wideRows) (w : Word) : rowOf (r.build w) = some (.wide r) := by
  obtain ⟨n, hn, rfl⟩ := List.mem_iff_getElem.1 hr
  have hi : (wideRows[n].build w).ctorIdx = n := by simpa [hn] using congrArg (·[n]?) (wideRows_ctorIdx w)
  rw [rowOf, table, hi, List.getElem?_append_left (by simpa using hn)]
  simp [hn]

theorem rowOf_build_narrow {r : Row 16} (hr : r ∈ narrowRows) (h : Half) : rowOf (r.build h) = some (.narrow r) := by
  obtain ⟨n, hn, rfl⟩ := List.mem_iff_getElem.1 hr
  have hi : (narrowRows[n].build h).ctorIdx = wideRows.length + n := by
    simpa [hn] using congrArg (·[n]?) (narrowRows_ctorIdx h)
  rw [rowOf, table, hi, List.getElem?_append_right (by simp)]
  simp [hn]

theorem mem_wideRows {i : Instr} {r : Row 32} (h : rowOf i = some (.wide r)) : r ∈ wideRows := by
  simpa [table] using List.mem_of_getElem? h

theorem mem_narrowRows {i : Instr} {r : Row 16} (h : rowOf i = some (.narrow r)) : r ∈ narrowRows := by
  simpa [table] using List.mem_of_getElem? h

/-- A code decodes to an instruction exactly where the instruction's own row reads it. -/
theorem decodeCode_eq_some_iff (c : Code) (i : Instr) :
    decodeCode c = some i ↔ ∃ r, rowOf i = some r ∧ r.Reads c i := by
  constructor
  · intro h
    cases c with
    | wide w =>
      obtain ⟨r, hr, rfl⟩ := Option.map_eq_some_iff.1 h
      exact ⟨_, rowOf_build_wide (List.mem_of_find?_eq_some hr) w, List.find?_some (p := (Row.fits · w)) hr, rfl⟩
    | narrow w =>
      obtain ⟨r, hr, rfl⟩ := Option.map_eq_some_iff.1 h
      exact ⟨_, rowOf_build_narrow (List.mem_of_find?_eq_some hr) w, List.find?_some (p := (Row.fits · w)) hr, rfl⟩
  · rintro ⟨r, hr, h⟩
    cases r <;> cases c
    case wide.wide => exact h.2 ▸ decodeWide_of_fits (mem_wideRows hr) h.1
    case narrow.narrow => exact h.2 ▸ decodeNarrow_of_fits (mem_narrowRows hr) h.1
    all_goals exact h.elim

/-! ## Every encoding -/

/-- The row reads the instruction's operands where the encoding lays them, and they fill the word beside the row's fixed
fields. -/
def Lays {k : Nat} (r : Row k) (fields : List (Nat × Nat)) (i : Instr) : Prop :=
  Tiles k (entries r fields) ∧ ∀ w, r.build w = i ↔ Reads w k (entries r fields)

/-- The instruction's encoding is the code that its row reads it from. -/
def Spelled (i : Instr) : Prop := ∀ c, encode i = c ↔ ∃ r, rowOf i = some r ∧ r.Reads c i

theorem Lays.spelled_wide {r : Row 32} {fields : List (Nat × Nat)} {i : Instr} (h : Lays r fields i)
    (hr : rowOf i = some (.wide r)) (he : encode i = wideCode (matchValue r) fields) : Spelled i := by
  intro c
  simp only [hr, Option.some.injEq, exists_eq_left', he, wideCode]
  cases c with
  | wide w => rw [Code.wide.injEq, ofNat_eq_iff r h.1, ← h.2]; rfl
  | narrow w => simp [TableRow.Reads]

theorem Lays.spelled_narrow {r : Row 16} {fields : List (Nat × Nat)} {i : Instr} (h : Lays r fields i)
    (hr : rowOf i = some (.narrow r)) (he : encode i = narrowCode (matchValue r) fields) : Spelled i := by
  intro c
  simp only [hr, Option.some.injEq, exists_eq_left', he, narrowCode]
  cases c with
  | narrow w => rw [Code.narrow.injEq, ofNat_eq_iff r h.1, ← h.2]; rfl
  | wide w => simp [TableRow.Reads]

/-- Every instruction's encoding is read by its row; the narrow instructions come first. -/
theorem spelled (i : Instr) : Spelled i := by
  cases i
  case tLslImm | tLsrImm | tAsrImm | tAddReg | tSubReg | tAddImm3 | tSubImm3 | tMovImm8 | tCmpImm8 | tAddImm8
      | tSubImm8 | tAnd | tEor | tLslReg | tLsrReg | tAsrReg | tAdc | tSbc | tRor | tTst | tNeg | tCmpReg | tCmn |
      tOrr | tMul | tBic | tMvn | tAddHi | tCmpHi | tMovHi | tBx | tLdrPc | tStrReg | tStrbReg | tLdrReg |
      tLdrbReg | tStrhReg | tLdsbReg | tLdrhReg | tLdshReg | tStrImm | tLdrImm | tStrbImm | tLdrbImm | tStrhImm |
      tLdrhImm | tStrSp | tLdrSp | tAddPc | tAddSp | tAddSpimm | tSubSpimm | tPush | tPop | tStmia | tLdmia | tBeq
      | tBne | tBcs | tBcc | tBmi | tBpl | tBvs | tBvc | tBhi | tBls | tBge | tBlt | tBgt | tBle | tSwi | tB |
      tBlHi | tBlLo =>
    refine Lays.spelled_narrow ?_ rfl rfl
    simp only [Lays, entries, List.map, List.foldr, List.orderedInsert, Entry.lo_fixed, Entry.lo_operand,
      Nat.reduceLeDiff, if_true, Tiles, Reads, fitsIn_toNat, fitsIn_bit, Nat.reduceSub, Nat.reduceLT, Nat.reduceAdd,
      Nat.reducePow, and_true, true_and]
    simp [bitAt_eq_iff, fieldAt_eq_iff]
  all_goals
    refine Lays.spelled_wide ?_ rfl rfl
    simp only [Lays, entries, List.map, List.foldr, List.orderedInsert, Entry.lo_fixed, Entry.lo_operand,
      Nat.reduceLeDiff, if_true, if_false, Tiles, Reads, fitsIn_toNat, fitsIn_bit, fitsIn_cond, fitsIn_shift,
      Nat.reduceSub, Nat.reduceLT, Nat.reduceAdd, Nat.reducePow, and_true, true_and]
    simp [condAt_eq_iff, bitAt_eq_iff, fieldAt_eq_iff, shiftAt_eq_iff]

/-- Settles O1: both sides say that the row of the instruction's constructor reads the instruction from the code. -/
theorem decodeAndEncodeAgree : Obligations.DecodeAndEncodeAgree := fun c i =>
  (decodeCode_eq_some_iff c i).trans (spelled i c).symm

/-- Settles O4: by O1 it is enough that each code is the instruction's encoding. -/
theorem specWordsDecode : Obligations.SpecWordsDecode :=
  have wide {w : Word} {i : Instr} : encode i = .wide w → decodeWide w = some i :=
    (decodeAndEncodeAgree (.wide w) i).2
  have narrow {h : Half} {i : Instr} : encode i = .narrow h → decodeNarrow h = some i :=
    (decodeAndEncodeAgree (.narrow h) i).2
  ⟨wide rfl, wide rfl, wide rfl, wide rfl, wide rfl, wide rfl, narrow rfl, narrow rfl, narrow rfl, narrow rfl⟩

end Sys2Proof.Encoding
end

section
/-! PROOF. Two combinations of field tests are compared on all words by deciding one bit after the other. -/

namespace Sys2Proof.Encoding

/-- A Boolean combination of tests of a word's bits. -/
inductive Test where
  | const (b : Bool)
  /-- Every listed bit has the listed value. -/
  | bits (ls : List (Nat × Bool))
  | not (t : Test)
  | and (t u : Test)
  | or (t u : Test)

namespace Test

def eval {k : Nat} (w : BitVec k) : Test → Bool
  | const b => b
  | bits ls => ls.all fun l => w.getLsbD l.1 == l.2
  | not t => !t.eval w
  | and t u => t.eval w && u.eval w
  | or t u => t.eval w || u.eval w

/-! ## Deciding a bit -/

/-- `bits`, `not`, `and` and `or` with their constants worked out. -/
def allOf : List (Nat × Bool) → Test
  | [] => const true
  | l :: ls => bits (l :: ls)

def neg : Test → Test
  | const b => const !b
  | t => not t

def conj : Test → Test → Test
  | const true, u => u
  | const false, _ => const false
  | t, const true => t
  | _, const false => const false
  | t, u => and t u

def disj : Test → Test → Test
  | const false, u => u
  | const true, _ => const true
  | t, const false => t
  | _, const true => const true
  | t, u => or t u

/-- What is left of a test once bit `j` is known to be `b`. -/
def assume (j : Nat) (b : Bool) : Test → Test
  | const c => const c
  | bits ls => if (j, !b) ∈ ls then const false else allOf (ls.filter (·.1 != j))
  | not t => neg (t.assume j b)
  | and t u => conj (t.assume j b) (u.assume j b)
  | or t u => disj (t.assume j b) (u.assume j b)

def sameConst : Test → Test → Bool
  | const a, const b => a == b
  | _, _ => false

/-- A bit that the test asks for. -/
def bitAsked : Test → Option Nat
  | const _ => none
  | bits ls => ls.head?.map (·.1)
  | not t => t.bitAsked
  | and t u => t.bitAsked <|> u.bitAsked
  | or t u => t.bitAsked <|> u.bitAsked

/-- The tests come to the same constant however bits that they ask for are decided, at most `n` one after the other. -/
def agree : Nat → Test → Test → Bool
  | 0, t, u => sameConst t u
  | n + 1, t, u =>
    sameConst t u ||
      match t.bitAsked <|> u.bitAsked with
      | none => false
      | some j => agree n (t.assume j false) (u.assume j false) && agree n (t.assume j true) (u.assume j true)

section
variable {k : Nat} (w : BitVec k)

theorem eval_allOf (ls : List (Nat × Bool)) : (allOf ls).eval w = (bits ls).eval w := by cases ls <;> rfl

theorem eval_neg (t : Test) : t.neg.eval w = !t.eval w := by cases t <;> rfl

theorem eval_conj (t u : Test) : (t.conj u).eval w = (t.eval w && u.eval w) := by
  unfold conj
  split <;> simp [eval]

theorem eval_disj (t u : Test) : (t.disj u).eval w = (t.eval w || u.eval w) := by
  unfold disj
  split <;> simp [eval]

/-- A list of bits that is not refuted by bit `j` asks no more than its other bits. -/
theorem all_filter_bits {j : Nat} {ls : List (Nat × Bool)} (h : (j, !w.getLsbD j) ∉ ls) :
    (ls.filter (·.1 != j)).all (fun l => w.getLsbD l.1 == l.2) = ls.all fun l => w.getLsbD l.1 == l.2 := by
  rw [List.all_filter, Bool.eq_iff_iff, List.all_eq_true, List.all_eq_true]
  refine forall₂_congr fun ⟨m, b⟩ hl => ?_
  by_cases hm : m = j
  · obtain rfl := hm
    have hb : w.getLsbD m = b := by
      by_contra hb
      rw [Bool.eq_not_of_ne hb, Bool.not_not] at h
      exact h hl
    simp [hb]
  · simp [hm]

theorem eval_assume (j : Nat) (t : Test) : (t.assume j (w.getLsbD j)).eval w = t.eval w := by
  induction t with
  | const b => rfl
  | bits ls =>
    rw [assume]
    split
    · next h => exact (List.all_eq_false.2 ⟨_, h, by simp⟩).symm
    · next h => exact (eval_allOf w _).trans (all_filter_bits w h)
  | not t ih => rw [assume, eval_neg, ih, eval]
  | and t u iht ihu => rw [assume, eval_conj, iht, ihu, eval]
  | or t u iht ihu => rw [assume, eval_disj, iht, ihu, eval]

theorem eval_eq_of_sameConst {t u : Test} (h : sameConst t u = true) : t.eval w = u.eval w := by
  unfold sameConst at h
  split at h
  · exact eq_of_beq h
  · cases h

/-- Tests that agree hold of the same words. -/
theorem eval_eq_of_agree {n : Nat} {t u : Test} (h : agree n t u = true) : t.eval w = u.eval w := by
  induction n generalizing t u with
  | zero => exact eval_eq_of_sameConst w h
  | succ n ih =>
    obtain h | h := Bool.or_eq_true_iff.1 h
    · exact eval_eq_of_sameConst w h
    · split at h
      · cases h
      · next j _ =>
        obtain ⟨hf, ht⟩ := Bool.and_eq_true_iff.1 h
        rw [← eval_assume w j t, ← eval_assume w j u]
        cases w.getLsbD j with
        | false => exact ih hf
        | true => exact ih ht

end

/-! ## Fields -/

/-- The bits of a field's value, the highest first. -/
def bitsOf (f : Fixed) : List (Nat × Bool) :=
  (List.range (f.hi + 1 - f.lo)).reverse.map fun m => (f.lo + m, f.value.testBit m)

/-- Bits `hi` to `lo` hold `v`. -/
def field (hi lo v : Nat) : Test := bits (bitsOf ⟨hi, lo, v⟩)

/-- The word has all the fixed fields. -/
def fits (fs : List Fixed) : Test := bits (fs.flatMap bitsOf)

/-- The word fits one of the rows. -/
def fitsSome {k : Nat} (rows : List (Row k)) : Test := rows.foldr (fun r t => or (fits r.fixed) t) (const false)

theorem slice_eq_iff {k : Nat} (w : BitVec k) {hi lo v : Nat} (h : v < 2 ^ (hi + 1 - lo)) :
    slice hi lo w = v ↔ ∀ m < hi + 1 - lo, w.getLsbD (lo + m) = v.testBit m := by
  constructor
  · rintro rfl m hm
    simp [slice, Nat.testBit_mod_two_pow, Nat.testBit_div_two_pow, hm, BitVec.getLsbD, Nat.add_comm]
  · intro hb
    refine Nat.eq_of_testBit_eq fun m => ?_
    rw [slice, Nat.testBit_mod_two_pow, Nat.testBit_div_two_pow]
    by_cases hm : m < hi + 1 - lo
    · simp [hm, ← hb m hm, BitVec.getLsbD, Nat.add_comm]
    · simp [hm, Nat.testBit_eq_false_of_lt (h.trans_le (Nat.pow_le_pow_right Nat.two_pos (not_lt.1 hm)))]

theorem all_bitsOf {k : Nat} (w : BitVec k) {f : Fixed} (h : f.value < 2 ^ (f.hi + 1 - f.lo)) :
    (bitsOf f).all (fun l => w.getLsbD l.1 == l.2) = (slice f.hi f.lo w == f.value) := by
  rw [Bool.eq_iff_iff, beq_iff_eq, slice_eq_iff w h]
  simp [bitsOf]

theorem eval_field {k : Nat} (w : BitVec k) {hi lo v : Nat} (h : v < 2 ^ (hi + 1 - lo)) :
    (field hi lo v).eval w = (slice hi lo w == v) := all_bitsOf w (f := ⟨hi, lo, v⟩) h

theorem eval_fitsSome {k : Nat} (w : BitVec k) {rows : List (Row k)}
    (h : ∀ r ∈ rows, ∀ f ∈ r.fixed, f.value < 2 ^ (f.hi + 1 - f.lo)) :
    (fitsSome rows).eval w = rows.any (·.fits w) := by
  induction rows with
  | nil => rfl
  | cons r rows ih =>
    obtain ⟨hr, hrows⟩ := List.forall_mem_cons.1 h
    have hfits : (fits r.fixed).eval w = r.fits w := by
      rw [fits, eval, List.all_flatMap, Row.fits, Bool.eq_iff_iff, List.all_eq_true, List.all_eq_true]
      exact forall₂_congr fun f hf => by rw [all_bitsOf w (hr f hf)]
    rw [List.any_cons, ← hfits, ← ih hrows]
    rfl

end Test

end Sys2Proof.Encoding
end

section
/-! PROOF. The reserved encodings are the listed holes of the opcode table and raise Undefined-instruction
(30_encoding R137, R138). -/

namespace Sys2Proof.Encoding

open Sys2Proof.Machine

/-! ## The holes as tests -/

/-- The test of `isStatusOrBx`: MRS, MSR of a register, MSR of an immediate, BX. -/
def statusOrBxTest : Test :=
  .or (.or (.or
    (.and (.and (.and (.field 27 23 0b00010) (.field 21 20 0)) (.field 19 16 0b1111)) (.field 11 0 0))
    (.and (.and (.and (.field 27 23 0b00010) (.field 21 20 0b10)) (.field 15 12 0b1111)) (.field 11 4 0)))
    (.and (.and (.field 27 23 0b00110) (.field 21 20 0b10)) (.field 15 12 0b1111)))
    (.field 27 4 0x12FFF1)

/-- The test of `isMultiplyOrSwap`. -/
def multiplyOrSwapTest : Test :=
  .or (.or (.field 27 22 0) (.field 27 23 1))
    (.and (.and (.field 27 23 0b00010) (.field 21 20 0)) (.field 11 8 0))

/-- The test of `reservedWide`, its four lines the holes (a) to (d). -/
def reservedWideTest : Test :=
  .or (.or (.or
    (.and (.or (.and (.and (.field 27 23 0b00010) (.field 20 20 0)) (.not (.and (.field 7 7 1) (.field 4 4 1))))
      (.and (.field 27 23 0b00110) (.field 20 20 0))) (.not statusOrBxTest))
    (.and (.and (.field 27 25 0) (.field 7 4 0b1001)) (.not multiplyOrSwapTest)))
    (.and (.and (.and (.and (.field 27 25 0) (.field 7 7 1)) (.field 4 4 1)) (.field 20 20 0)) (.field 6 6 1)))
    (.and (.and (.and (.and (.and (.field 27 25 0) (.field 22 22 0)) (.field 7 7 1)) (.field 4 4 1))
      (.not (.field 6 5 0))) (.not (.field 11 8 0)))

theorem two_le_slice {k : Nat} (w : BitVec k) : decide (2 ≤ slice 6 5 w) = (slice 6 6 w == 1) := by
  rw [Bool.eq_iff_iff, decide_eq_true_iff, beq_iff_eq, slice, slice]
  omega

theorem eval_reservedWideTest (w : Word) : reservedWideTest.eval w = reservedWide w := by
  simp [reservedWideTest, statusOrBxTest, multiplyOrSwapTest, Test.eval, Test.eval_field, reservedWide, isStatusOrBx,
    isMultiplyOrSwap, two_le_slice, bne]

/-- The holes of the narrow table, each the value of its leading bits. -/
def narrowHoles : List Fixed :=
  [⟨15, 8, 0b10110001⟩, ⟨15, 8, 0b10110010⟩, ⟨15, 8, 0b10110011⟩, ⟨15, 9, 0b1011011⟩, ⟨15, 9, 0b1011100⟩,
    ⟨15, 9, 0b1011101⟩, ⟨15, 9, 0b1011111⟩, ⟨15, 8, 0b11011110⟩, ⟨15, 11, 0b11101⟩, ⟨15, 7, 0b010001111⟩]

/-- The test of `reservedNarrow`. -/
def reservedNarrowTest : Test := narrowHoles.foldr (fun f t => .or (.field f.hi f.lo f.value) t) (.const false)

theorem eval_reservedNarrowTest (h : Half) : reservedNarrowTest.eval h = reservedNarrow h := by
  simp [reservedNarrowTest, narrowHoles, Test.eval, Test.eval_field, reservedNarrow, Bool.or_assoc]

/-! ## The table against the holes -/

theorem wideRows_values : ∀ r ∈ wideRows, ∀ f ∈ r.fixed, f.value < 2 ^ (f.hi + 1 - f.lo) := by decide +kernel

theorem narrowRows_values : ∀ r ∈ narrowRows, ∀ f ∈ r.fixed, f.value < 2 ^ (f.hi + 1 - f.lo) := by decide +kernel

/-- Deciding the 28 bits below the condition settles both sides. -/
theorem agree_wideRows : Test.agree 28 reservedWideTest.not (Test.fitsSome wideRows) = true := by decide +kernel

theorem agree_narrowRows : Test.agree 16 reservedNarrowTest.not (Test.fitsSome narrowRows) = true := by
  decide +kernel

theorem any_wideRows_fits (w : Word) : wideRows.any (·.fits w) = !reservedWide w := by
  rw [← eval_reservedWideTest, ← Test.eval_fitsSome w wideRows_values]
  exact (Test.eval_eq_of_agree w agree_wideRows).symm

theorem any_narrowRows_fits (h : Half) : narrowRows.any (·.fits h) = !reservedNarrow h := by
  rw [← eval_reservedNarrowTest, ← Test.eval_fitsSome h narrowRows_values]
  exact (Test.eval_eq_of_agree h agree_narrowRows).symm

theorem decodeWide_eq_none_iff (w : Word) : decodeWide w = none ↔ reservedWide w = true := by
  rw [decodeWide_none, ← Bool.not_eq_false', ← any_wideRows_fits, List.any_eq_false]
  simp only [Bool.not_eq_true]

theorem decodeNarrow_eq_none_iff (h : Half) : decodeNarrow h = none ↔ reservedNarrow h = true := by
  rw [decodeNarrow_none, ← Bool.not_eq_false', ← any_narrowRows_fits, List.any_eq_false]
  simp only [Bool.not_eq_true]

/-- Settles O2: the rows leave exactly the holes free, bit by bit; the step then finds no instruction. -/
theorem reservedWideWords : Obligations.ReservedWideWords := by
  refine fun w => ⟨decodeWide_eq_none_iff w, fun st hr hc => ?_⟩
  rw [State.runWide, (decodeWide_eq_none_iff w).2 hr]
  exact State.ifPassed_pos hc _

/-- Settles O3: the rows leave exactly the holes free, bit by bit; the step then finds no instruction. -/
theorem reservedNarrowHalfwords : Obligations.ReservedNarrowHalfwords := by
  refine fun h => ⟨decodeNarrow_eq_none_iff h, fun st hr => ?_⟩
  rw [State.runNarrow, (decodeNarrow_eq_none_iff h).2 hr]

end Sys2Proof.Encoding
end

section
/-! PROOF. What changes the width flag (30_encoding R111). -/

namespace Sys2Proof.Machine

/-- An ending that changes the width flag is an exchange, a return or an exception. -/
theorem Ended.width_changed {i : Instr} {st t : State} (h : Ended i st t) (ht : t.cpsr.t ≠ st.cpsr.t) :
    IsExchange i ∨ (st.cpsr.mode.hasSpsr = true ∧ st.spsr.toStatus = some t.cpsr) ∨
      ∃ e, (e = .undefined ∨ e = .swi ∨ e = .dataAbort) ∧ t.cpsr = st.handlerStatus e ∧ t.cpsr.t = false := by
  cases h with
  | wrote h => exact absurd (congrArg Status.t h.status.1) ht
  | flagged h n z c v => exact absurd (congrArg Status.t h.status.1) ht
  | trapped h he =>
    obtain ⟨e, he, hc, _⟩ := h.tookException he
    exact .inr (.inr ⟨e, he, hc, congrArg Status.t hc⟩)
  | exchanged hi => exact .inl hi
  | returned h hm hs a => exact .inr (.inl ⟨hm, by rw [State.branchTo_cpsr, State.loadStatus_cpsr, hs]⟩)
  | cpsrWritten hp hpt => exact absurd (by rw [State.loadStatus_cpsr, hpt]) ht
  | spsrWritten hm q => exact absurd rfl ht

/-- Settles O52: of the seven endings of an instruction only these three change the width flag. -/
theorem widthChangesOnlyBy : Obligations.WidthChangesOnlyBy := by
  intro i st t h ht
  obtain (hbx | htBx) | hspsr | hexc := (exec_ended h).width_changed ht
  · exact .inl hbx
  · exact .inr (.inl htBx)
  · exact .inr (.inr (.inl hspsr))
  · exact .inr (.inr (.inr hexc))

end Sys2Proof.Machine
end

section
/-! PROOF. The sixteen conditions (40 R160, R161), and that a wide instruction or a reserved wide word whose condition
fails is skipped (40 R154, 30_encoding R135). -/

namespace Sys2Proof.Machine

/-! ## The table of conditions -/

/-- Above bit 28 a word has nothing but its condition field (30_encoding R113). -/
theorem condAt_top (w : Word) : condAt 28 w = Cond.ofCode (w.toNat / 2 ^ 28) := by
  have hlt : w.toNat / 2 ^ 28 < 2 ^ 4 := by omega
  rw [condAt, slice, Nat.mod_eq_of_lt hlt]

/-- A condition looks at N, Z, C and V alone (40 R161). -/
theorem Cond.holds_congr (c : Cond) {p q : Status} (hn : p.n = q.n) (hz : p.z = q.z) (hc : p.c = q.c)
    (hv : p.v = q.v) : Cond.holds c p = Cond.holds c q := by
  simp only [Cond.holds, hn, hz, hc, hv]

/-- Settles O8: the field is the top of the word, and each row of the table is the definition's. -/
theorem conditionTable : Obligations.ConditionTable := by
  refine ⟨condAt_top, rfl, fun p => ?_, fun c _ _ => Cond.holds_congr c⟩
  simp [Cond.holds]

/-! ## Skipping -/

/-- An instruction whose condition fails is skipped before anything else of it is looked at (40 R154, log entry 22). -/
theorem exec_skipped {i : Instr} {c : Cond} {st : State} (hi : condOf i = some c) (hc : Cond.holds c st.cpsr = false) :
    exec i st = .next st := by
  obtain ⟨k, _, he⟩ := exec_form i st
  rw [he, hi]
  exact State.ifPassed_neg hc _

/-- The wide table, row by row: what a row builds has the word's own condition. -/
theorem wideRows_condOf (w : Word) :
    wideRows.map (fun r => condOf (r.build w)) = List.replicate wideRows.length (some (condAt 28 w)) := (rfl)

/-- A decoded wide instruction has the condition of bits 31:28 (30_encoding R113). -/
theorem condOf_of_decodeWide {w : Word} {i : Instr} (h : decodeWide w = some i) : condOf i = some (condAt 28 w) := by
  obtain ⟨r, hr, rfl⟩ := Option.map_eq_some_iff.1 h
  refine List.eq_of_mem_replicate (n := wideRows.length) ?_
  rw [← wideRows_condOf]
  exact List.mem_map_of_mem (List.mem_of_find?_eq_some hr)

/-- A fetched word whose condition field fails is skipped, reserved or not (40 R154, 30_encoding R135, R137). -/
theorem State.runWide_skipped {w : Word} {st : State} (hc : Cond.holds (condAt 28 w) st.cpsr = false) :
    st.runWide w = .next st := by
  unfold State.runWide
  split
  · next i hi => exact exec_skipped (condOf_of_decodeWide hi) hc
  · exact State.ifPassed_neg hc _

/-- Settles O7: every meaning stands under its condition, which every row of the table takes from bits 31:28. -/
theorem skippedChangesNothing : Obligations.SkippedChangesNothing :=
  ⟨fun _ _ _ => exec_skipped, fun _ _ => State.runWide_skipped, fun _ => rfl⟩

end Sys2Proof.Machine
end

section
/-! PROOF. The CPU step: it runs the instruction in memory at the PC, and then moves or refills the PC (40 R152, R156,
R157, R158, R162). -/

namespace Sys2Proof.Machine

/-! ## The end of the step -/

theorem align4_toNat (a : Word) : (align4 a).toNat = a.toNat - a.toNat % 4 := by
  have h : align4 a = (a >>> 2) <<< 2 := by
    ext i hi
    interval_cases i <;> simp [align4]
  rw [h, BitVec.toNat_shiftLeft, BitVec.toNat_ushiftRight, Nat.shiftRight_eq_div_pow, Nat.shiftLeft_eq]
  omega

/-- Aligning commutes with the pipeline offset, a multiple of the alignment (10_state R30, 40 R158). -/
theorem align2_add_offset (a : Word) : align2 (a + 4) - 4 = align2 a := by
  have h := align2_toNat a
  have ht := align2_toNat (a + 4)
  bv_omega

theorem align4_add_offset (a : Word) : align4 (a + 8) - 8 = align4 a := by
  have h := align4_toNat a
  have ht := align4_toNat (a + 8)
  bv_omega

/-- The end of a step writes x[15] and clears the mark of a redirect. -/
theorem State.finishStep_eq (t : State) (w : Word) :
    t.finishStep w =
      { t.setReg 15 (t.reg 15 + if t.redirected then offsetOf t.cpsr.t else w) with redirected := false } := by
  unfold State.finishStep
  split
  · rfl
  · next h => rw [← Bool.eq_false_of_not_eq_true h]; rfl

theorem State.finishStep_reg (t : State) (w : Word) (q : Reg) :
    (t.finishStep w).reg q =
      if q = 15 then t.reg 15 + (if t.redirected then offsetOf t.cpsr.t else w) else t.reg q := by
  rw [State.finishStep_eq]
  exact State.reg_setReg t 15 q _

/-- Where the next step fetches (40 R151, R152). -/
theorem State.prepared_currentInstruction (s : State) :
    s.prepared.currentInstruction =
      (if s.cpsr.t then align2 (s.reg 15) else align4 (s.reg 15)) - offsetOf s.cpsr.t :=
  congrArg (· - offsetOf s.cpsr.t) (State.reg_setReg_self s 15 _)

/-- After a redirect the next fetch is at the target, aligned (40 R158). -/
theorem State.finishStep_fetchesTarget {t : State} (w : Word) (h : t.redirected = true) :
    (t.finishStep w).prepared.currentInstruction = if t.cpsr.t then align2 (t.reg 15) else align4 (t.reg 15) := by
  have hc : (t.finishStep w).cpsr = t.cpsr := by rw [State.finishStep_eq]; rfl
  rw [State.prepared_currentInstruction, State.finishStep_reg, hc, if_pos rfl, if_pos h]
  cases t.cpsr.t with
  | false => exact align4_add_offset _
  | true => exact align2_add_offset _

/-- Settles O6: the end of a step writes x[15] and the mark alone, and aligning commutes with the pipeline offset. -/
theorem pcAfterStep : Obligations.PcAfterStep := by
  intro t w
  refine ⟨fun h => ?_, fun h => ⟨?_, State.finishStep_fetchesTarget w h⟩, ?_, fun r hr _ => ?_, ?_⟩
  · simp [State.finishStep_reg, h]
  · simp [State.finishStep_reg, h, offsetOf]
  · rw [State.finishStep_eq]
  · rw [State.finishStep_reg, if_neg hr]
  · rw [State.finishStep_eq]
    exact ⟨rfl, ⟨rfl, rfl, rfl, rfl, rfl, rfl, rfl⟩, fun _ => rfl⟩

/-! ## The fetch -/

theorem State.load16_readable {s : State} {a : Word} (h : Readable s.params a) :
    s.load16 a = some (Memory.read16 s.mem (cellOf s.params a)) := by
  obtain ⟨_, _, _, ht, hr⟩ := h
  rw [State.load16_cells ht hr, cellOf_node ht]

theorem State.load32_readable {s : State} {a : Word} (h : Readable s.params a) :
    s.load32 a = some (Memory.read32 s.mem (cellOf s.params a)) := by
  obtain ⟨_, _, _, ht, hr⟩ := h
  rw [State.load32_cells ht hr, cellOf_node ht]

theorem decodeNarrow_of_decode {b0 b1 : Byte} {rest rest' : List Byte} {i : Instr}
    (h : decode true (b0 :: b1 :: rest) = .ok (i, rest')) : decodeNarrow (halfOfBytes b0 b1) = some i := by
  simp only [decode] at h
  split at h
  · next hd => cases h; exact hd
  · cases h

theorem decodeWide_of_decode {b0 b1 b2 b3 : Byte} {rest rest' : List Byte} {i : Instr}
    (h : decode false (b0 :: b1 :: b2 :: b3 :: rest) = .ok (i, rest')) :
    decodeWide (wordOfBytes b0 b1 b2 b3) = some i := by
  simp only [decode] at h
  split at h
  · next hd => cases h; exact hd
  · cases h

/-- Fetching where storage answers runs the instruction that its bytes decode to (40 R152, R156). -/
theorem State.fetchAndRun_of_decode {s : State} {i : Instr} (ha : Readable s.params s.currentInstruction)
    (hd : decode s.cpsr.t ((List.range (if s.cpsr.t then 2 else 4)).map
      fun k => Memory.read s.mem (cellOf s.params s.currentInstruction + k)) = .ok (i, [])) :
    s.fetchAndRun = exec i s.drawn := by
  cases ht : s.cpsr.t with
  | true =>
    rw [ht] at hd
    have hrun : decodeNarrow (Memory.read16 s.mem (cellOf s.params s.currentInstruction)) = some i :=
      decodeNarrow_of_decode hd
    simp only [State.fetchAndRun, ht, if_true, State.load16_readable ha, State.runNarrow, hrun]
  | false =>
    rw [ht] at hd
    have hrun : decodeWide (Memory.read32 s.mem (cellOf s.params s.currentInstruction)) = some i :=
      decodeWide_of_decode hd
    simp only [State.fetchAndRun, ht, Bool.false_eq_true, if_false, State.load32_readable ha, State.runWide, hrun]

/-! ## The step -/

theorem andThen_assoc (o : Outcome) (f g : State → Outcome) :
    andThen (andThen o f) g = andThen o fun t => andThen (f t) g := by cases o <;> rfl

/-- With no exception to take the CPU step fetches, runs and moves the PC (40 R162). -/
theorem State.cpuStep_of_noException {s : State} (h : s.prepared.asyncException = none) :
    s.cpuStep = andThen s.prepared.fetchAndRun fun t => .next (t.finishStep (widthOf s.cpsr.t)) := by
  simp only [State.cpuStep, h]

/-- With no channel active the CPU has the tick in Run (60 R500). -/
theorem State.agentStep_of_run {s : State} (hd : s.dev.activeChannel = none) (hp : s.dev.power = .run) :
    s.agentStep = s.cpuStep := by
  simp only [State.agentStep, hd, hp]

/-- Settles O5: the CPU has the tick, the bytes it fetches are those that decode, and the phases follow in turn. -/
theorem stepRunsDecodedInstruction : Obligations.StepRunsDecodedInstruction := by
  rintro s i a hd hp he rfl ha hi
  calc step s = andThen s.cpuStep fun t => t.timerPhase.externalPhase := by
        rw [step, State.tick, State.agentStep_of_run hd hp]
    _ = andThen (exec i s.prepared.drawn) fun t => (t.finishStep (widthOf s.cpsr.t)).timerPhase.externalPhase := by
        rw [State.cpuStep_of_noException he, State.fetchAndRun_of_decode ha hi, andThen_assoc]; rfl

end Sys2Proof.Machine
end

section
/-! PROOF. The wide branches B, BL and BX (41 R180, R181, R184). -/

namespace Sys2Proof.Machine

/-- Two zero bits below a signed field multiply it by four (41 R180). -/
theorem branchOffset_eq_ofInt (imm24 : BitVec 24) : branchOffset imm24 = BitVec.ofInt 32 (4 * imm24.toInt) :=
  congrArg (BitVec.ofInt 32) BitVec.toInt_append_zero

/-- A branch writes x[15] and the mark of a redirect alone (40 R158). -/
theorem State.branchTo_kept (s : State) (v : Word) :
    RegsKeptBut [] s (s.branchTo v) ∧ (s.branchTo v).cpsr = s.cpsr ∧ SystemKept s (s.branchTo v) ∧
      MemKept s (s.branchTo v) :=
  ⟨fun q hq _ => by rw [State.reg_branchTo, if_neg hq], rfl, ⟨rfl, rfl, rfl, rfl, rfl, rfl, rfl⟩, fun _ => rfl⟩

/-- The mode stays, so an exchange moves no banked register: it sets T and branches (41 R184). -/
theorem State.exchange_eq (s : State) (v : Word) :
    s.exchange v = { s with cpsr := { s.cpsr with t := v.getLsbD 0 } }.branchTo (align2 v) :=
  congrArg (·.branchTo (align2 v)) (s.loadStatus_same { s.cpsr with t := v.getLsbD 0 } rfl)

theorem execB_passed {c : Cond} {st : State} (h : Cond.holds c st.cpsr = true) (imm24 : BitVec 24) :
    exec (.b c imm24) st = .next (st.branchTo (st.reg 15 + BitVec.ofInt 32 (4 * imm24.toInt))) := by
  rw [← branchOffset_eq_ofInt]
  exact State.ifPassed_pos h _

theorem execBl_passed {c : Cond} {st : State} (h : Cond.holds c st.cpsr = true) (imm24 : BitVec 24) :
    exec (.bl c imm24) st =
      .next ((st.setReg 14 (st.reg 15 - 4)).branchTo (st.reg 15 + BitVec.ofInt 32 (4 * imm24.toInt))) := by
  rw [← branchOffset_eq_ofInt]
  exact State.ifPassed_pos h _

theorem execBx_passed {c : Cond} {st : State} (h : Cond.holds c st.cpsr = true) (rm : Reg) :
    exec (.bx c rm) st =
      .next ({ st with cpsr := { st.cpsr with t := (st.reg rm).getLsbD 0 } }.branchTo (align2 (st.reg rm))) := by
  rw [← State.exchange_eq]
  exact State.ifPassed_pos h _

/-- Settles O36: each is a branch to the stated target, after the link write (BL) or the write of T (BX) alone. -/
theorem branchResult : Obligations.BranchResult := by
  intro c st hc
  refine ⟨fun imm24 => ⟨_, execB_passed hc imm24, rfl, State.reg_setReg_self _ 15 _, State.branchTo_kept st _⟩,
    fun imm24 => ?bl, fun rm => ?bx⟩
  case bl =>
    obtain ⟨hregs, hframe⟩ :=
      (st.setReg 14 (st.reg 15 - 4)).branchTo_kept (st.reg 15 + BitVec.ofInt 32 (4 * imm24.toInt))
    refine ⟨_, execBl_passed hc imm24, rfl, State.reg_setReg_self _ 15 _, ?_, fun q hq hd => ?_, hframe⟩
    · rw [hregs 14 (by decide) List.not_mem_nil, State.reg_setReg_self]
    · rw [hregs q hq List.not_mem_nil, State.reg_setReg_ne _ _ (List.ne_of_not_mem_cons hd)]
  case bx =>
    obtain ⟨hregs, hcpsr, hsystem, hmem⟩ :=
      { st with cpsr := { st.cpsr with t := (st.reg rm).getLsbD 0 } : State }.branchTo_kept (align2 (st.reg rm))
    exact ⟨_, execBx_passed hc rm, rfl, State.reg_setReg_self _ 15 _, hcpsr, hregs, hsystem, hmem⟩

end Sys2Proof.Machine
end

section
/-! PROOF. The sixteen operations as numbers (42 R190, R197): AddWithCarry is the table's sum, and with its second
operand inverted the table's difference. -/

namespace Sys2Proof.Machine

/-- A number is outside the range of a signed word (10_state R36). -/
def exceedsWord (x : Int) : Bool := x < -2 ^ 31 || 2 ^ 31 ≤ x

theorem dpOverflow_arithmetic {o : AluOp} (h : o.isLogical = false) (op1 op2 : Word) (c v : Bool) :
    dpOverflow o op1 op2 c v = exceedsWord (dpSigned o op1 op2 c) := by
  rw [dpOverflow, h]
  rfl

theorem toNat_bit (b : Bool) : (bit b).toNat = b.toNat := by cases b <;> rfl

/-- The result of AddWithCarry is the sum modulo 2^32 (42 R197). -/
theorem addWithCarry_result (a b : Word) (c : Bool) : (addWithCarry a b c).result = a + b + bit c := by
  apply BitVec.eq_of_toNat_eq
  simp [addWithCarry, toNat_bit]

/-- Operands of one sign give a result of the other sign exactly where the signed sum exceeds a word (42 R197). -/
theorem addWithCarry_overflow (a b : Word) (c : Bool) :
    (addWithCarry a b c).overflow = exceedsWord (a.toInt + b.toInt + c.toNat) := by
  have ha := a.isLt
  have hb := b.isLt
  have hc := c.toNat_le
  rw [Bool.eq_iff_iff]
  simp only [addWithCarry, exceedsWord, BitVec.toInt_eq_toNat_cond, BitVec.msb_eq_decide, BitVec.toNat_ofNat,
    Bool.and_eq_true, bne_iff_ne, beq_iff_eq, Bool.or_eq_true, decide_eq_true_eq, ne_eq, decide_eq_decide]
  split <;> split <;> omega

theorem addWithCarry_eq (a b : Word) (c : Bool) :
    addWithCarry a b c =
      { result := a + b + bit c, carry := 2 ^ 32 ≤ a.toNat + b.toNat + c.toNat
        overflow := exceedsWord (a.toInt + b.toInt + c.toNat) } := by
  rw [← addWithCarry_result, ← addWithCarry_overflow]
  rfl

theorem toInt_not_word (b : Word) : (~~~b).toInt = -b.toInt - 1 := by
  have hb := b.isLt
  rw [BitVec.toInt_eq_toNat_cond, BitVec.toInt_eq_toNat_cond, BitVec.toNat_not]
  split <;> split <;> omega

/-- An inverted operand makes the sum the difference, with NOT borrow as its carry (42 R197). -/
theorem addWithCarry_not (a b : Word) (c : Bool) :
    addWithCarry a (~~~b) c =
      { result := a - b - bit (!c), carry := b.toNat + (!c).toNat ≤ a.toNat
        overflow := exceedsWord (a.toInt - b.toInt - (!c).toNat) } := by
  have hb := b.isLt
  have hone : c.toNat + (!c).toNat = 1 := by cases c <;> rfl
  have hresult : a + ~~~b + bit c = a - b - bit (!c) := by
    apply BitVec.eq_of_toNat_eq
    simp only [BitVec.toNat_add, BitVec.toNat_sub, BitVec.toNat_not, toNat_bit]
    omega
  have hcarry : 2 ^ 32 ≤ a.toNat + (~~~b).toNat + c.toNat ↔ b.toNat + (!c).toNat ≤ a.toNat := by
    rw [BitVec.toNat_not]
    omega
  have hsigned : a.toInt + (~~~b).toInt + c.toNat = a.toInt - b.toInt - (!c).toNat := by
    rw [toInt_not_word]
    omega
  rw [addWithCarry_eq, hresult, hsigned, decide_eq_decide.mpr hcarry]

/-- Every operation gives the table's result, C and V (42 R190, R192, R197). -/
theorem AluOp.eval_eq (o : AluOp) (op1 : Word) (op2 : Shifted) (p : Status) :
    o.eval op1 op2 p =
      { result := dpResult o op1 op2.value p.c, carry := dpCarry o op1 op2.value p.c op2.carry
        overflow := dpOverflow o op1 op2.value p.c p.v } := by
  cases o
  case and | eor | tst | teq | orr | mov | bic | mvn => rfl
  case add | cmn =>
    rw [dpOverflow_arithmetic rfl]
    exact (addWithCarry_eq ..).trans (by simp [dpResult, dpCarry, dpSigned, bit])
  case sub | cmp | rsb =>
    rw [dpOverflow_arithmetic rfl]
    exact (addWithCarry_not ..).trans (by simp [dpResult, dpCarry, dpSigned, bit])
  case adc => exact addWithCarry_eq ..
  case sbc | rsc => exact addWithCarry_not ..

end Sys2Proof.Machine
end

section
/-! PROOF. Wide data processing (42_arm_data_processing): every one of the forty-eight instructions is one body under
its condition and operand check, and the body writes Rd, the flags, or both. -/

namespace Sys2Proof.Machine

/-! ## The one form of the forty-eight meanings -/

/-- What an operation gives for the operands of a format (42 R190, R191). -/
def DpForm.alu (form : DpForm) (o : AluOp) (st : State) (rn : Reg) : Alu :=
  o.eval (form.op1 st rn) (form.op2 st) st.cpsr

/-- The body of a data-processing instruction: the four compares set flags alone (42 R192). -/
def State.dpBody (st : State) (o : AluOp) (s : Bool) (rd : Reg) (x : Alu) : Outcome :=
  if o.writes then st.writeAlu s rd x else .next (st.setAluFlags x)

/-- The operand check of a format: only the register-specified shift has one (42 R195). -/
def DpForm.check : DpForm → Option Unpredictable
  | .imm _ _ => none
  | .regIs _ _ _ => none
  | .regRs rs _ _ => checkShiftReg rs

theorem condOf_dpInstr (o : AluOp) (c : Cond) (s : Bool) (rn rd : Reg) (form : DpForm) :
    condOf (dpInstr o c s rn rd form) = some c := by
  cases form <;> cases o <;> rfl

theorem unpredictable_dpInstr (o : AluOp) (c : Cond) (s : Bool) (rn rd : Reg) (form : DpForm) :
    (dpInstr o c s rn rd form).unpredictable = form.check := by
  cases form <;> cases o <;> rfl

/-- MOV and MVN, whose meanings have no first operand, do not look at it (42 R213, R215). -/
theorem exec_dpInstr (o : AluOp) (c : Cond) (s : Bool) (rn rd : Reg) (form : DpForm) (st : State) :
    exec (dpInstr o c s rn rd form) st =
      st.ifPassed c (guarded form.check (st.dpBody o s rd (form.alu o st rn))) := by
  cases form <;> cases o <;> rfl

theorem exec_dpInstr_passed {o : AluOp} {c : Cond} {s : Bool} {rn rd : Reg} {form : DpForm} {st : State}
    (hc : Cond.holds c st.cpsr = true) (hf : form.check = none) :
    exec (dpInstr o c s rn rd form) st = st.dpBody o s rd (form.alu o st rn) := by
  rw [exec_dpInstr, State.ifPassed_pos hc, guarded_none hf]

theorem State.dpBody_writes {o : AluOp} (ho : o.writes = true) (st : State) (s : Bool) (rd : Reg) (x : Alu) :
    st.dpBody o s rd x = st.writeAlu s rd x := if_pos ho

theorem State.dpBody_compare {o : AluOp} (ho : o.writes = false) (st : State) (s : Bool) (rd : Reg) (x : Alu) :
    st.dpBody o s rd x = .next (st.setAluFlags x) := if_neg (ho ▸ Bool.false_ne_true)

/-! ## What the body writes -/

theorem DpForm.alu_result (form : DpForm) (o : AluOp) (st : State) (rn : Reg) :
    (form.alu o st rn).result = dpResult o (form.op1 st rn) (form.op2 st).value st.cpsr.c := by
  rw [DpForm.alu, AluOp.eval_eq]

/-- A logical operation keeps V (42 R192). -/
theorem DpForm.alu_overflow {o : AluOp} (h : o.isLogical = true) (form : DpForm) (st : State) (rn : Reg) :
    (form.alu o st rn).overflow = st.cpsr.v := by
  rw [DpForm.alu, AluOp.eval_eq, dpOverflow, if_pos h]

/-- The flags written are those of the tables, whatever register the result was written to. -/
theorem DpForm.setAluFlags_flagged {st t : State} (ht : t.cpsr = st.cpsr) (form : DpForm) (o : AluOp) (rn : Reg) :
    DpFlagged o st (t.setAluFlags (form.alu o st rn)) (form.op1 st rn) (form.op2 st).value (form.op2 st).carry := by
  rw [DpFlagged, Flagged, State.setAluFlags_cpsr, ht, DpForm.alu, AluOp.eval_eq, BitVec.msb_eq_getLsbD_last]

/-! ## What the writes leave alone -/

theorem State.setReg_kept (st : State) {rd : Reg} (h : rd ≠ 15) (v : Word) :
    RegsKeptBut [rd] st (st.setReg rd v) ∧ PcKept st (st.setReg rd v) ∧ SystemKept st (st.setReg rd v) ∧
      MemKept st (st.setReg rd v) :=
  ⟨fun _ _ hd => State.reg_setReg_ne _ _ (List.ne_of_not_mem_cons hd), ⟨State.reg_setReg_ne _ _ h.symm, rfl⟩,
    ⟨rfl, rfl, rfl, rfl, rfl, rfl, rfl⟩, fun _ => rfl⟩

/-- The flags stand in the status word alone (42 R192). -/
theorem State.setAluFlags_kept (st : State) (x : Alu) :
    RegsKeptBut [] st (st.setAluFlags x) ∧ PcKept st (st.setAluFlags x) ∧ ControlKept st (st.setAluFlags x) ∧
      SystemKept st (st.setAluFlags x) ∧ MemKept st (st.setAluFlags x) :=
  ⟨fun _ _ _ => rfl, ⟨rfl, rfl⟩, ⟨rfl, rfl, rfl, rfl⟩, ⟨rfl, rfl, rfl, rfl, rfl, rfl, rfl⟩, fun _ => rfl⟩

/-! ## Result, flags and frame -/

/-- Settles O17: the body is a register write, a write of the flags, or the two together. -/
theorem dataProcessingResult : Obligations.DataProcessingResult := by
  intro o c s rn rd form st hc hwf hrd
  have hf : form.check = none := (unpredictable_dpInstr ..).symm.trans (unpredictable_of_wf hwf)
  rw [exec_dpInstr_passed hc hf]
  cases ho : o.writes with
  | false =>
    obtain ⟨hregs, hpc, _, hsystem, hmem⟩ := st.setAluFlags_kept (form.alu o st rn)
    exact ⟨_, State.dpBody_compare ho .., nofun, fun _ => form.setAluFlags_flagged rfl o rn, fun _ => nofun,
      hregs, hpc, hsystem, hmem⟩
  | true =>
    rw [State.dpBody_writes ho, State.writeAlu, if_neg (hrd ho)]
    have hresult : (st.setReg rd (form.alu o st rn).result).reg rd =
        dpResult o (form.op1 st rn) (form.op2 st).value st.cpsr.c := by
      rw [State.reg_setReg_self, DpForm.alu_result]
    have hkept := st.setReg_kept (hrd ho) (form.alu o st rn).result
    cases s with
    | false => exact ⟨_, rfl, fun _ => hresult, by simp, fun _ _ => rfl, hkept⟩
    | true => exact ⟨_, rfl, fun _ => hresult, fun _ => form.setAluFlags_flagged rfl o rn, nofun, hkept⟩

/-! ## r15 as the destination -/

theorem State.writeAlu_branch (st : State) (x : Alu) : st.writeAlu false 15 x = .next (st.branchTo x.result) := rfl

theorem State.writeAlu_return (st : State) (x : Alu) :
    st.writeAlu true 15 x = st.restoreStatus fun t => .next (t.branchTo x.result) := rfl

theorem State.restoreStatus_of_spsr {s : State} (h : s.cpsr.mode.hasSpsr = true) {new : Status}
    (hs : s.spsr.toStatus = some new) (k : State → Outcome) : s.restoreStatus k = k (s.loadStatus new) := by
  simp [State.restoreStatus, h, hs]

theorem State.restoreStatus_illegal {s : State} (h : s.cpsr.mode.hasSpsr = true) (hs : s.spsr.toStatus = none)
    (k : State → Outcome) : s.restoreStatus k = .refused .illegalMode := by
  simp [State.restoreStatus, h, hs]

theorem State.restoreStatus_noSpsr {s : State} (h : s.cpsr.mode.hasSpsr = false) (k : State → Outcome) :
    s.restoreStatus k = .refused .noSpsr := by
  simp [State.restoreStatus, h]

/-- Settles O18: without S the write of r15 is a branch; with S it is the branch after the return from the exception,
its target computed before. -/
theorem dataProcessingToPc : Obligations.DataProcessingToPc := by
  intro o c rn form st hc ho hwf
  have hf : form.check = none := (unpredictable_dpInstr ..).symm.trans (unpredictable_of_wf hwf)
  have hexec (s : Bool) : exec (dpInstr o c s rn 15 form) st = st.writeAlu s 15 (form.alu o st rn) := by
    rw [exec_dpInstr_passed hc hf, State.dpBody_writes ho]
  rw [hexec, hexec, State.writeAlu_branch, State.writeAlu_return, DpForm.alu_result]
  refine ⟨⟨_, rfl, rfl, rfl, State.reg_setReg_self ..⟩, fun h new hs => ?_, fun h hs => ?_, fun h => ?_⟩
  · exact State.restoreStatus_of_spsr h hs _
  · exact State.restoreStatus_illegal h hs _
  · exact State.restoreStatus_noSpsr h _

/-! ## The frame -/

/-- How data processing ends: skipped, in a compare, or in a write of Rd. -/
theorem exec_dpInstr_next {o : AluOp} {c : Cond} {s : Bool} {rn rd : Reg} {form : DpForm} {st t : State}
    (h : exec (dpInstr o c s rn rd form) st = .next t) :
    t = st ∨ (o.writes = false ∧ t = st.setAluFlags (form.alu o st rn)) ∨
      (o.writes = true ∧ st.writeAlu s rd (form.alu o st rn) = .next t) := by
  rw [exec_dpInstr] at h
  obtain ⟨_, rfl⟩ | ⟨_, h⟩ := State.ifPassed_next.1 h
  · exact .inl rfl
  · obtain ⟨_, h⟩ := guarded_next.1 h
    cases ho : o.writes with
    | false =>
      rw [State.dpBody_compare ho] at h
      cases h
      exact .inr (.inl ⟨rfl, rfl⟩)
    | true => exact .inr (.inr ⟨rfl, State.dpBody_writes ho .. ▸ h⟩)

/-- Settles O19: each ending of data processing but the exception return writes Rd or the PC, the flags, or nothing. -/
theorem dataProcessingFrame : Obligations.DataProcessingFrame := by
  intro o c s rn rd form st t h hreturn
  obtain rfl | ⟨ho, rfl⟩ | ⟨ho, h⟩ := exec_dpInstr_next h
  case inl =>
    exact ⟨fun _ _ _ => rfl, fun _ => ⟨rfl, rfl⟩, ⟨rfl, rfl, rfl, rfl⟩, fun _ _ => rfl, fun _ => rfl,
      ⟨rfl, rfl, rfl, rfl, rfl, rfl, rfl⟩, fun _ => rfl⟩
  case inr.inl =>
    obtain ⟨hregs, hpc, hcontrol, hsystem, hmem⟩ := st.setAluFlags_kept (form.alu o st rn)
    rw [ho]
    exact ⟨hregs, fun _ => hpc, hcontrol, nofun, fun hl => form.alu_overflow hl st rn, hsystem, hmem⟩
  case inr.inr =>
    rw [ho, if_pos rfl]
    obtain ⟨hd, rfl, rfl⟩ | ⟨hd, rfl, rfl⟩ | ⟨rfl, rfl, rfl⟩ | ⟨_, rfl, rfl, _⟩ := State.writeAlu_next h
    · obtain ⟨hregs, hpc, hsystem, hmem⟩ := st.setReg_kept hd (form.alu o st rn).result
      exact ⟨hregs, fun _ => hpc, ⟨rfl, rfl, rfl, rfl⟩, fun _ => nofun, fun hl => form.alu_overflow hl st rn,
        hsystem, hmem⟩
    · obtain ⟨hregs, hpc, hsystem, hmem⟩ := st.setReg_kept hd (form.alu o st rn).result
      exact ⟨hregs, fun _ => hpc, ⟨rfl, rfl, rfl, rfl⟩, fun _ _ => rfl, fun _ => rfl, hsystem, hmem⟩
    · obtain ⟨hregs, hcpsr, hsystem, hmem⟩ := st.branchTo_kept (form.alu o st rn).result
      exact ⟨fun q hq _ => hregs q hq List.not_mem_nil, fun hd => absurd rfl (hd rfl), ⟨rfl, rfl, rfl, rfl⟩,
        fun _ _ => hcpsr, fun _ => rfl, hsystem, hmem⟩
    · exact absurd rfl (hreturn ho rfl)

end Sys2Proof.Machine
end

section
/-! PROOF. The shifter operands as arithmetic (42 R193 to R195): each row once for an immediate amount from 1 to 31,
which the amounts from 1 to 31 of a register share. -/

namespace Sys2Proof.Machine

/-! ## Bits and numbers of a shifted word -/

/-- A rotation moves bit `k + n`, counted around, to bit `k` (42 R193). -/
theorem getLsbD_rotateRight_word (m : Word) {n k : Nat} (hn : n < 32) (hk : k < 32) :
    (m.rotateRight n).getLsbD k = m.getLsbD ((k + n) % 32) := by
  rw [BitVec.getLsbD_rotateRight_of_lt hn]
  by_cases h : k < 32 - n
  · rw [decide_eq_true h, cond_true, Nat.add_comm, Nat.mod_eq_of_lt (by omega)]
  · have hwrap : (k + n) % 32 = k - (32 - n) := by omega
    rw [decide_eq_false h, cond_false, decide_eq_true hk, Bool.true_and, hwrap]

theorem signWord_eq (m : Word) : signWord m = if m.getLsbD 31 then 0xFFFFFFFF else 0 := by
  rw [signWord, BitVec.msb_eq_getLsbD_last]

/-! ## An immediate amount from 1 to 31 (42 R194) -/

section
variable {n : BitVec 5} (hn : n ≠ 0) (m : Word) (c : Bool)
include hn

theorem shiftImm_lsl :
    (shiftImm .lsl n m c).value.toNat = m.toNat * 2 ^ n.toNat % 2 ^ 32 ∧
      (shiftImm .lsl n m c).carry = m.getLsbD (32 - n.toNat) := by
  simp only [shiftImm, hn, if_false, BitVec.toNat_shiftLeft, Nat.shiftLeft_eq, and_self]

theorem shiftImm_lsr :
    (shiftImm .lsr n m c).value.toNat = m.toNat / 2 ^ n.toNat ∧
      (shiftImm .lsr n m c).carry = m.getLsbD (n.toNat - 1) := by
  simp only [shiftImm, hn, if_false, BitVec.toNat_ushiftRight, Nat.shiftRight_eq_div_pow, and_self]

theorem shiftImm_asr :
    (shiftImm .asr n m c).value.toInt = m.toInt / 2 ^ n.toNat ∧
      (shiftImm .asr n m c).carry = m.getLsbD (n.toNat - 1) := by
  simp only [shiftImm, hn, if_false, BitVec.toInt_sshiftRight, Int.shiftRight_eq_div_pow, Nat.cast_pow,
    Nat.cast_ofNat, and_self]

theorem shiftImm_ror :
    (∀ k, k < 32 → (shiftImm .ror n m c).value.getLsbD k = m.getLsbD ((k + n.toNat) % 32)) ∧
      (shiftImm .ror n m c).carry = m.getLsbD (n.toNat - 1) := by
  simp only [shiftImm, hn, if_false, and_true]
  exact fun _ hk => getLsbD_rotateRight_word m n.isLt hk

end

/-! ## The amount 0 (42 R194) -/

theorem shiftImm_lsl_zero (m : Word) (c : Bool) : shiftImm .lsl 0 m c = { value := m, carry := c } := rfl

theorem shiftImm_lsr_zero (m : Word) (c : Bool) : shiftImm .lsr 0 m c = { value := 0, carry := m.getLsbD 31 } :=
  congrArg (Shifted.mk 0) m.msb_eq_getLsbD_last

theorem shiftImm_asr_zero (m : Word) (c : Bool) :
    shiftImm .asr 0 m c = { value := if m.getLsbD 31 then 0xFFFFFFFF else 0, carry := m.getLsbD 31 } := by
  rw [← signWord_eq, ← m.msb_eq_getLsbD_last]
  rfl

/-- RRX: one place to the right, C coming in at the top and bit 0 going out. -/
theorem shiftImm_ror_zero (m : Word) (c : Bool) :
    (shiftImm .ror 0 m c).carry = m.getLsbD 0 ∧ (shiftImm .ror 0 m c).value.getLsbD 31 = c ∧
      ∀ k, k < 31 → (shiftImm .ror 0 m c).value.getLsbD k = m.getLsbD (k + 1) := by
  have hvalue : (shiftImm .ror 0 m c).value = BitVec.ofBool c ++ m.extractLsb' 1 31 := rfl
  refine ⟨rfl, ?_, fun k hk => ?_⟩
  · rw [hvalue, BitVec.getLsbD_append]
    simp
  · rw [hvalue, BitVec.getLsbD_append]
    simp [hk, Nat.add_comm]

/-! ## The rotated immediate (42 R193) -/

theorem getLsbD_immOperand (rot : BitVec 4) (imm8 : BitVec 8) (c : Bool) {k : Nat} (hk : k < 32) :
    (immOperand rot imm8 c).value.getLsbD k = imm8.getLsbD ((k + 2 * rot.toNat) % 32) := by
  have hrot := rot.isLt
  rw [immOperand, getLsbD_rotateRight_word _ (by omega) hk, BitVec.getLsbD_setWidth,
    decide_eq_true (Nat.mod_lt _ (by decide)), Bool.true_and]

theorem immOperand_carry (rot : BitVec 4) (imm8 : BitVec 8) (c : Bool) :
    (immOperand rot imm8 c).carry = if rot = 0 then c else (immOperand rot imm8 c).value.getLsbD 31 := by
  rw [← BitVec.msb_eq_getLsbD_last]
  rfl

/-- Settles O20: the rotated immediate, the rows for the amount 0, and those for 1 to 31. -/
theorem immediateShifts : Obligations.ImmediateShifts := by
  refine ⟨fun rot imm8 c => ⟨fun _ hk => getLsbD_immOperand rot imm8 c hk, immOperand_carry rot imm8 c⟩, fun m c => ?_⟩
  obtain ⟨hcarry, htop, hbits⟩ := shiftImm_ror_zero m c
  refine ⟨shiftImm_lsl_zero m c, shiftImm_lsr_zero m c, shiftImm_asr_zero m c, hcarry, htop, hbits, fun n hn => ?_⟩
  exact ⟨shiftImm_lsl hn m c, shiftImm_lsr hn m c, shiftImm_asr hn m c, shiftImm_ror hn m c⟩

/-! ## The low byte of a register (42 R195) -/

theorem toNat_amount (n : BitVec 8) : (n.setWidth 5).toNat = n.toNat % 32 := BitVec.toNat_setWidth ..

theorem amount_ne_zero {n : BitVec 8} (h : n.toNat % 32 ≠ 0) : n.setWidth 5 ≠ 0 := fun e =>
  h ((toNat_amount n).symm.trans (congrArg BitVec.toNat e))

/-- From 1 to 31 a register amount shifts as the immediate amount does. -/
theorem shiftReg_eq_shiftImm (sh : Shift) {n : BitVec 8} (h1 : 1 ≤ n.toNat) (h31 : n.toNat ≤ 31) (m : Word) (c : Bool) :
    shiftReg sh n m c = shiftImm sh (n.setWidth 5) m c := by
  have hmod : n.toNat % 32 = n.toNat := Nat.mod_eq_of_lt (by omega)
  have h0 : n.toNat ≠ 0 := by omega
  have hlt : n.toNat < 32 := by omega
  have hn : n.setWidth 5 ≠ 0 := amount_ne_zero (by omega)
  cases sh <;> simp only [shiftReg, shiftImm, toNat_amount, hmod, h0, hlt, hn, if_true, if_false]

/-- A rotation by a register counts modulo 32. -/
theorem shiftReg_ror_eq_shiftImm {n : BitVec 8} (h : n.toNat % 32 ≠ 0) (m : Word) (c : Bool) :
    shiftReg .ror n m c = shiftImm .ror (n.setWidth 5) m c := by
  have h0 : n.toNat ≠ 0 := by omega
  simp only [shiftReg, shiftImm, toNat_amount, h0, h, amount_ne_zero h, if_false]

theorem shiftReg_zero (sh : Shift) (m : Word) (c : Bool) : shiftReg sh 0 m c = { value := m, carry := c } := rfl

section
variable {n : BitVec 8} (m : Word) (c : Bool)

theorem shiftReg_logical_32 (h : n.toNat = 32) :
    shiftReg .lsl n m c = { value := 0, carry := m.getLsbD 0 } ∧
      shiftReg .lsr n m c = { value := 0, carry := m.getLsbD 31 } := by
  simp [shiftReg, h, BitVec.msb_eq_getLsbD_last]

theorem shiftReg_logical_beyond (h : 33 ≤ n.toNat) :
    shiftReg .lsl n m c = { value := 0, carry := false } ∧ shiftReg .lsr n m c = { value := 0, carry := false } := by
  have h0 : n.toNat ≠ 0 := by omega
  have hlt : ¬n.toNat < 32 := by omega
  have h32 : n.toNat ≠ 32 := by omega
  simp only [shiftReg, h0, hlt, h32, if_false, and_self]

theorem shiftReg_asr_beyond (h : 32 ≤ n.toNat) :
    shiftReg .asr n m c = { value := if m.getLsbD 31 then 0xFFFFFFFF else 0, carry := m.getLsbD 31 } := by
  have h0 : n.toNat ≠ 0 := by omega
  have hlt : ¬n.toNat < 32 := by omega
  simp only [shiftReg, h0, hlt, if_false, signWord_eq, BitVec.msb_eq_getLsbD_last]

theorem shiftReg_ror_multiple (h0 : n ≠ 0) (h : n.toNat % 32 = 0) :
    shiftReg .ror n m c = { value := m, carry := m.getLsbD 31 } := by
  have hn : n.toNat ≠ 0 := fun e => h0 (BitVec.eq_of_toNat_eq e)
  simp only [shiftReg, hn, h, if_true, if_false, BitVec.msb_eq_getLsbD_last]

end

/-- Settles O21: r15 as the amount is the instruction's refused operand combination; of the amounts, 1 to 31 and every
rotation are those of an immediate, and the others are rows of their own. -/
theorem registerShifts : Obligations.RegisterShifts := by
  refine ⟨fun o c s rn rd rm sh st hc => ?refused, fun n m c => ⟨?zero, ?small, ?at32, ?beyond, ?asr, ?multiple, ?ror⟩⟩
  case refused =>
    refine exec_of_unpredictable (unpredictable_dpInstr ..) fun c' hc' => ?_
    rw [condOf_dpInstr] at hc'
    exact Option.some.inj hc' ▸ hc
  case zero =>
    rintro rfl sh
    exact shiftReg_zero sh m c
  case small =>
    intro h1 h31
    have hmod : n.toNat % 32 = n.toNat := Nat.mod_eq_of_lt (by omega)
    have hn : n.setWidth 5 ≠ 0 := amount_ne_zero (by omega)
    have hlsl := shiftImm_lsl hn m c
    have hlsr := shiftImm_lsr hn m c
    have hasr := shiftImm_asr hn m c
    rw [toNat_amount, hmod, ← shiftReg_eq_shiftImm _ h1 h31] at hlsl hlsr hasr
    exact ⟨hlsl, hlsr, hasr⟩
  case at32 => exact shiftReg_logical_32 m c
  case beyond => exact shiftReg_logical_beyond m c
  case asr => exact shiftReg_asr_beyond m c
  case multiple => exact shiftReg_ror_multiple m c
  case ror =>
    intro h
    obtain ⟨hbits, hcarry⟩ := shiftImm_ror (amount_ne_zero h) m c
    rw [toNat_amount, ← shiftReg_ror_eq_shiftImm h] at hbits hcarry
    exact ⟨fun k hk => by rw [hbits k hk, Nat.add_mod_mod], hcarry⟩

end Sys2Proof.Machine
end

section
/-! PROOF. Wide multiplies (43_arm_multiply): MUL and MLA are one body under their checks, and so are the four long
multiplies, whose 64-bit results are the unbounded ones modulo 2^64. -/

namespace Sys2Proof.Machine

/-! ## MUL and MLA -/

/-- The check of MUL leaves an Rd other than r15 (93 U7). -/
theorem rd_ne_pc_of_checkMul {rd rm rs : Reg} (h : checkMul rd rm rs = none) : rd ≠ 15 := by
  obtain ⟨hpc, -⟩ := firstOf_cons_none.1 h
  rintro rfl
  simp at hpc

/-- The check of MLA is that of MUL, with Rn another register that is not r15 (93 U7). -/
theorem checkMla_none_iff {rd rn rm rs : Reg} :
    checkMla rd rn rm rs = none ↔ rn ≠ 15 ∧ checkMul rd rm rs = none := by
  simp only [checkMla, checkMul, firstOf_cons_none, Bool.or_eq_false_iff, beq_eq_false_iff_ne]
  tauto

/-- The body of MUL and MLA: Rd holds the result, the flags follow with S, and nothing else changes (43 R231, R232). -/
theorem State.writeMul_result (st : State) (s : Bool) {rd : Reg} (h : rd ≠ 15) (r : Word) :
    ∃ t, st.writeMul s rd r = .next t ∧ t.reg rd = r ∧
      (if s then t.cpsr = { st.cpsr with n := (t.reg rd).getLsbD 31, z := t.reg rd == 0, c := t.cpsr.c }
        else t.cpsr = st.cpsr) ∧
      RegsKeptBut [rd] st t ∧ PcKept st t ∧ SystemKept st t ∧ MemKept st t := by
  have hreg : (st.setReg rd r).reg rd = r := st.reg_setReg_self rd r
  have hkept := st.setReg_kept h r
  cases s with
  | false => exact ⟨_, rfl, hreg, rfl, hkept⟩
  | true =>
    refine ⟨_, rfl, hreg, ?_, hkept⟩
    simp [BitVec.msb_eq_getLsbD_last]

/-- Settles O22: both are the body that writes Rd, for operands whose check keeps Rd off r15. -/
theorem multiplyResult : Obligations.MultiplyResult := by
  intro c s rd rn rs rm sbz st hc
  constructor <;> intro hwf
  case left =>
    have hcheck : checkMul rd rm rs = none := unpredictable_of_wf hwf
    have hexec : exec (.mul c s rd sbz rs rm) st = st.writeMul s rd (st.reg rm * st.reg rs) :=
      (State.ifPassed_pos hc _).trans (guarded_none hcheck _)
    obtain ⟨t, ht, hrd, hrest⟩ := st.writeMul_result s (rd_ne_pc_of_checkMul hcheck) (st.reg rm * st.reg rs)
    exact ⟨t, hexec.trans ht, by rw [hrd, BitVec.toNat_mul], hrest⟩
  case right =>
    have hcheck : checkMla rd rn rm rs = none := unpredictable_of_wf hwf
    obtain ⟨-, hmul⟩ := checkMla_none_iff.1 hcheck
    have hexec : exec (.mla c s rd rn rs rm) st = st.writeMul s rd (st.reg rm * st.reg rs + st.reg rn) :=
      (State.ifPassed_pos hc _).trans (guarded_none hcheck _)
    obtain ⟨t, ht, hrd, hrest⟩ :=
      st.writeMul_result s (rd_ne_pc_of_checkMul hmul) (st.reg rm * st.reg rs + st.reg rn)
    exact ⟨t, hexec.trans ht, by rw [hrd, BitVec.toNat_add, BitVec.toNat_mul, Nat.mod_add_mod], hrest⟩

/-! ## The 64-bit results as integers -/

theorem unsignedProduct_eq_ofInt (a b : Word) : unsignedProduct a b = BitVec.ofInt 64 (a.toNat * b.toNat) := by
  rw [unsignedProduct, BitVec.ofInt_mul, BitVec.ofInt_natCast, BitVec.ofInt_natCast, BitVec.ofNat_toNat,
    BitVec.ofNat_toNat]

/-- Sign extension keeps the integer, so the product of the extended words is the signed one (43 R235). -/
theorem signedProduct_eq_ofInt (a b : Word) : signedProduct a b = BitVec.ofInt 64 (a.toInt * b.toInt) :=
  (BitVec.ofInt_mul ..).symm

/-- The accumulator is the two words read as one number (43 R234). -/
theorem State.longAcc_eq_ofInt (st : State) (rdHi rdLo : Reg) :
    st.longAcc rdHi rdLo = BitVec.ofInt 64 (2 ^ 32 * (st.reg rdHi).toNat + (st.reg rdLo).toNat) := by
  apply BitVec.eq_of_toNat_eq
  have hacc : (st.longAcc rdHi rdLo).toNat = 2 ^ 32 * (st.reg rdHi).toNat + (st.reg rdLo).toNat := by
    rw [State.longAcc, BitVec.toNat_append, ← Nat.shiftLeft_add_eq_or_of_lt (BitVec.isLt _), Nat.shiftLeft_eq,
      Nat.mul_comm]
  rw [hacc, BitVec.toNat_ofInt]
  omega

theorem toNat_ofInt_cast (x : Int) : ((BitVec.ofInt 64 x).toNat : Int) = x % 2 ^ 64 := by
  rw [BitVec.toNat_ofInt]
  omega

/-! ## The halves of a long result -/

section
variable (p : BitVec 64)

theorem toNat_halves : 2 ^ 32 * (p.extractLsb' 32 32).toNat + (p.extractLsb' 0 32).toNat = p.toNat := by
  simp only [BitVec.extractLsb'_toNat, Nat.shiftRight_eq_div_pow]
  omega

theorem msb_eq_high_half : p.msb = (p.extractLsb' 32 32).getLsbD 31 := by
  simp [BitVec.msb_eq_getLsbD_last]

/-- The zero test of 64 bits is that of both halves (43 R233). -/
theorem eq_zero_halves : (p == 0) = (p.extractLsb' 32 32 == 0 && p.extractLsb' 0 32 == 0) := by
  have h := toNat_halves p
  rw [Bool.eq_iff_iff]
  simp only [Bool.and_eq_true, beq_iff_eq, BitVec.toNat_eq, BitVec.ofNat_eq_ofNat, BitVec.toNat_ofNat]
  omega

end

/-! ## The long multiplies -/

/-- What a long multiply writes to RdHi and RdLo (43 R233 to R236). -/
def LongOp.result (op : LongOp) (st : State) (rdHi rdLo rs rm : Reg) : BitVec 64 :=
  match op with
  | .umull => unsignedProduct (st.reg rm) (st.reg rs)
  | .umlal => unsignedProduct (st.reg rm) (st.reg rs) + st.longAcc rdHi rdLo
  | .smull => signedProduct (st.reg rm) (st.reg rs)
  | .smlal => signedProduct (st.reg rm) (st.reg rs) + st.longAcc rdHi rdLo

theorem unpredictable_longInstr (op : LongOp) (c : Cond) (s : Bool) (rdHi rdLo rs rm : Reg) :
    (longInstr op c s rdHi rdLo rs rm).unpredictable = checkMull rdHi rdLo rm rs := by
  cases op <;> rfl

theorem exec_longInstr (op : LongOp) (c : Cond) (s : Bool) (rdHi rdLo rs rm : Reg) (st : State) :
    exec (longInstr op c s rdHi rdLo rs rm) st =
      st.ifPassed c (guarded (checkMull rdHi rdLo rm rs)
        (st.writeLong s rdHi rdLo (op.result st rdHi rdLo rs rm))) := by
  cases op <;> rfl

/-- The check of the long multiplies leaves two different destinations, neither of them r15 (93 U7). -/
theorem destinations_of_checkMull {rdHi rdLo rm rs : Reg} (h : checkMull rdHi rdLo rm rs = none) :
    rdHi ≠ 15 ∧ rdLo ≠ 15 ∧ rdHi ≠ rdLo := by
  obtain ⟨hpc, h⟩ := firstOf_cons_none.1 h
  obtain ⟨hne, -⟩ := firstOf_cons_none.1 h
  simp only [Bool.or_eq_false_iff, beq_eq_false_iff_ne] at hpc hne
  obtain ⟨⟨⟨hhi, hlo⟩, -⟩, -⟩ := hpc
  exact ⟨hhi, hlo, hne⟩

/-- The writes of a long multiply: the halves of `p` in RdHi and RdLo. -/
def State.setLong (st : State) (rdHi rdLo : Reg) (p : BitVec 64) : State :=
  (st.setReg rdLo (p.extractLsb' 0 32)).setReg rdHi (p.extractLsb' 32 32)

theorem State.writeLong_eq (st : State) (s : Bool) (rdHi rdLo : Reg) (p : BitVec 64) :
    st.writeLong s rdHi rdLo p =
      .next (if s then (st.setLong rdHi rdLo p).setLongFlags p else st.setLong rdHi rdLo p) := by
  cases s <;> rfl

@[simp] theorem State.reg_setLong_hi (st : State) (rdHi rdLo : Reg) (p : BitVec 64) :
    (st.setLong rdHi rdLo p).reg rdHi = p.extractLsb' 32 32 := State.reg_setReg_self ..

theorem State.reg_setLong_lo (st : State) {rdHi rdLo : Reg} (h : rdHi ≠ rdLo) (p : BitVec 64) :
    (st.setLong rdHi rdLo p).reg rdLo = p.extractLsb' 0 32 :=
  (State.reg_setReg_ne _ _ h.symm).trans (State.reg_setReg_self ..)

theorem State.setLong_kept (st : State) {rdHi rdLo : Reg} (hhi : rdHi ≠ 15) (hlo : rdLo ≠ 15) (p : BitVec 64) :
    RegsKeptBut [rdHi, rdLo] st (st.setLong rdHi rdLo p) ∧ PcKept st (st.setLong rdHi rdLo p) ∧
      SystemKept st (st.setLong rdHi rdLo p) ∧ MemKept st (st.setLong rdHi rdLo p) := by
  have hreg : ∀ q, q ≠ rdHi → q ≠ rdLo → (st.setLong rdHi rdLo p).reg q = st.reg q := fun q h1 h2 =>
    (State.reg_setReg_ne _ _ h1).trans (State.reg_setReg_ne _ _ h2)
  refine ⟨fun q _ hq => ?_, ⟨hreg 15 hhi.symm hlo.symm, rfl⟩, ⟨rfl, rfl, rfl, rfl, rfl, rfl, rfl⟩, fun _ => rfl⟩
  exact hreg q (List.ne_of_not_mem_cons hq) (List.ne_of_not_mem_cons (List.not_mem_of_not_mem_cons hq))

/-- The body of a long multiply: RdHi and RdLo hold the halves of the result, the flags follow with S, and nothing else
changes (43 R233 to R236). -/
theorem State.writeLong_result (st : State) (s : Bool) {rdHi rdLo : Reg} (hhi : rdHi ≠ 15) (hlo : rdLo ≠ 15)
    (hne : rdHi ≠ rdLo) (p : BitVec 64) :
    ∃ t, st.writeLong s rdHi rdLo p = .next t ∧ 2 ^ 32 * (t.reg rdHi).toNat + (t.reg rdLo).toNat = p.toNat ∧
      (if s then
        t.cpsr = { st.cpsr with
          n := (t.reg rdHi).getLsbD 31, z := t.reg rdHi == 0 && t.reg rdLo == 0, c := t.cpsr.c, v := t.cpsr.v }
        else t.cpsr = st.cpsr) ∧
      RegsKeptBut [rdHi, rdLo] st t ∧ PcKept st t ∧ SystemKept st t ∧ MemKept st t := by
  have hregHi := st.reg_setLong_hi rdHi rdLo p
  have hregLo := st.reg_setLong_lo hne p
  have hvalue : 2 ^ 32 * ((st.setLong rdHi rdLo p).reg rdHi).toNat + ((st.setLong rdHi rdLo p).reg rdLo).toNat =
      p.toNat := by
    rw [hregHi, hregLo, toNat_halves]
  have hkept := st.setLong_kept hhi hlo p
  refine ⟨_, st.writeLong_eq s rdHi rdLo p, ?_⟩
  cases s with
  | false => exact ⟨hvalue, rfl, hkept⟩
  | true =>
    refine ⟨hvalue, ?_, hkept⟩
    rw [if_pos rfl, if_pos rfl, State.reg_setLongFlags, State.reg_setLongFlags, hregHi, hregLo, ← msb_eq_high_half,
      ← eq_zero_halves]
    rfl

/-- Settles O23: the four are the body that writes the two halves, each with the 64-bit word of its unbounded result. -/
theorem longMultiplyResult : Obligations.LongMultiplyResult := by
  intro op c s rdHi rdLo rs rm st hc hwf
  have hcheck : checkMull rdHi rdLo rm rs = none := (unpredictable_longInstr ..).symm.trans (unpredictable_of_wf hwf)
  obtain ⟨hhi, hlo, hne⟩ := destinations_of_checkMull hcheck
  obtain ⟨t, ht, hvalue, hrest⟩ := st.writeLong_result s hhi hlo hne (op.result st rdHi rdLo rs rm)
  rw [exec_longInstr, State.ifPassed_pos hc, guarded_none hcheck]
  refine ⟨t, ht, ?_, hrest⟩
  rw [hvalue]
  cases op with
  | umull => rw [LongOp.result, unsignedProduct_eq_ofInt, toNat_ofInt_cast]
  | umlal => rw [LongOp.result, unsignedProduct_eq_ofInt, State.longAcc_eq_ofInt, ← BitVec.ofInt_add, toNat_ofInt_cast]
  | smull => rw [LongOp.result, signedProduct_eq_ofInt, toNat_ofInt_cast]
  | smlal => rw [LongOp.result, signedProduct_eq_ofInt, State.longAcc_eq_ofInt, ← BitVec.ofInt_add, toNat_ofInt_cast]

end Sys2Proof.Machine
end

section
/-! PROOF. The load of each kind, said once for the wide and the narrow instructions: what it gives from storage, when it
fails, and when an odd address refuses it (44 R242 to R256). -/

namespace Sys2Proof.Machine

/-! ## Bytes of a loaded word -/

/-- A word of storage is its four cells, the least significant first (20_memory R88). -/
theorem Memory.extractLsb'_read32 (m : List Host.Cell) (c : Nat) {j : Nat} (hj : j < 4) :
    (Memory.read32 m c).extractLsb' (8 * j) 8 = Memory.read m (c + j) := by
  refine BitVec.eq_of_getLsbD_eq fun i hi => ?_
  simp only [Memory.read32, BitVec.getLsbD_extractLsb', BitVec.getLsbD_append, hi, decide_true, Bool.true_and]
  interval_cases j <;> grind

/-- A rotation by whole bytes moves byte `k + j`, counted around, to byte `j` (44 R246). -/
theorem extractLsb'_rotateRight_bytes (v : Word) {k j : Nat} (hk : k < 4) (hj : j < 4) :
    (v.rotateRight (8 * k)).extractLsb' (8 * j) 8 = v.extractLsb' (8 * ((k + j) % 4)) 8 := by
  refine BitVec.eq_of_getLsbD_eq fun i hi => ?_
  have hbit : (8 * j + i + 8 * k) % 32 = 8 * ((k + j) % 4) + i := by omega
  simp only [BitVec.getLsbD_extractLsb', hi, decide_true, Bool.true_and]
  rw [getLsbD_rotateRight_word v (by omega) (by omega), hbit]

/-- The ARM7TDMI's halfword at an odd address: its bytes at the two ends of the word (44 R256). -/
theorem rotateRight_halfword (b1 b0 : Byte) :
    ((b1 ++ b0 : Half).setWidth 32).rotateRight 8 = (b0 ++ 0#16 ++ b1 : BitVec 32) := by
  refine BitVec.eq_of_getLsbD_eq fun i hi => ?_
  rw [getLsbD_rotateRight_word _ (by decide) hi]
  simp only [BitVec.getLsbD_setWidth, BitVec.getLsbD_append]
  interval_cases i <;> simp

theorem toNat_append_bytes (hi lo : Byte) : (hi ++ lo : Half).toNat = lo.toNat + 256 * hi.toNat := by
  rw [BitVec.toNat_append, ← Nat.shiftLeft_add_eq_or_of_lt lo.isLt, Nat.shiftLeft_eq]
  omega

/-! ## Aligned addresses -/

theorem align2_of_even {a : Word} (h : a.getLsbD 0 = false) : align2 a = a := by
  have heven : a.toNat % 2 = 0 := by simpa [BitVec.getLsbD] using h
  refine BitVec.eq_of_toNat_eq ?_
  rw [align2_toNat]
  omega

theorem align4_of_mod {a : Word} (h : a.toNat % 4 = 0) : align4 a = a := by
  refine BitVec.eq_of_toNat_eq ?_
  rw [align4_toNat]
  omega

/-! ## The load of each kind -/

/-- What the load of a kind gives, none where its bus call fails. -/
def State.loadAs (s : State) (k : LoadKind) (ea : Word) : Option Word :=
  match k with
  | .word => s.loadWord ea
  | .byte => s.loadByte ea
  | .signedByte => s.loadSignedByte ea
  | .half => s.loadHalf ea
  | .signedHalf => s.loadSignedHalf ea

/-- A load of a kind under the guard on odd addresses, which the halfword kinds have (44 R256). -/
def State.loadGuard (s : State) (k : LoadKind) (ea : Word) (o : Outcome) : Outcome :=
  match k with
  | .word => o
  | .byte => o
  | .signedByte => o
  | .half => s.halfwordGuard ea o
  | .signedHalf => s.halfwordGuard ea o

theorem State.loadGuard_refused {s : State} {k : LoadKind} {ea : Word} (hodd : OddHalf k ea)
    (hp : s.params.oddHalfword = .refuse) (o : Outcome) : s.loadGuard k ea o = .refused .oddHalfwordLoad := by
  obtain ⟨rfl | rfl, hea⟩ := hodd <;> exact if_pos ⟨hea, hp⟩

theorem State.halfwordGuard_passed {s : State} {ea : Word} (h : ea.getLsbD 0 = true → s.params.oddHalfword = .arm7tdmi)
    (o : Outcome) : s.halfwordGuard ea o = o :=
  if_neg fun ⟨hea, hp⟩ => by cases hp.symm.trans (h hea)

theorem State.loadGuard_passed {s : State} {k : LoadKind} {ea : Word}
    (h : OddHalf k ea → s.params.oddHalfword = .arm7tdmi) (o : Outcome) : s.loadGuard k ea o = o := by
  cases k with
  | word => rfl
  | byte => rfl
  | signedByte => rfl
  | half => exact State.halfwordGuard_passed (fun hea => h ⟨.inl rfl, hea⟩) o
  | signedHalf => exact State.halfwordGuard_passed (fun hea => h ⟨.inr rfl, hea⟩) o

theorem State.loadSignedHalf_odd (s : State) {ea : Word} (h : ea.getLsbD 0 = true) :
    s.loadSignedHalf ea = s.loadSignedByte ea := if_pos h

theorem State.loadSignedHalf_even (s : State) {ea : Word} (h : ea.getLsbD 0 = false) :
    s.loadSignedHalf ea = (s.load16 ea).map fun v => v.signExtend 32 := if_neg (Bool.eq_false_iff.1 h)

/-- A load gives nothing where its bus call fails (20_memory R100). -/
theorem LoadKind.fails.loadAs {k : LoadKind} {st : State} {ea : Word} (h : k.fails st ea) : st.loadAs k ea = none := by
  cases k with
  | word => exact Option.map_eq_none_iff.2 h
  | byte => exact Option.map_eq_none_iff.2 h
  | signedByte => exact Option.map_eq_none_iff.2 h
  | half => exact Option.map_eq_none_iff.2 h
  | signedHalf =>
    rw [LoadKind.fails] at h
    rw [State.loadAs]
    cases hodd : ea.getLsbD 0 with
    | true =>
      rw [hodd, if_pos rfl] at h
      rw [State.loadSignedHalf_odd st hodd]
      exact Option.map_eq_none_iff.2 h
    | false =>
      rw [hodd, if_neg nofun] at h
      rw [State.loadSignedHalf_even st hodd]
      exact Option.map_eq_none_iff.2 h

/-! ## Loads from storage -/

section
variable {s : State} {ea : Word}

theorem State.load8_readable (h : Readable s.params ea) :
    s.load8 ea = some (Memory.read s.mem (cellOf s.params ea)) := by
  obtain ⟨_, _, _, ht, hr⟩ := h
  rw [State.load8_cells ht hr, cellOf_node ht]

theorem State.loadWord_readable (h : Readable s.params (align4 ea)) :
    s.loadWord ea =
      some ((Memory.read32 s.mem (cellOf s.params (align4 ea))).rotateRight (8 * (ea.toNat % 4))) := by
  rw [State.loadWord, State.load32_readable h, Option.map_some]

theorem State.loadByte_readable (h : Readable s.params ea) :
    s.loadByte ea = some ((Memory.read s.mem (cellOf s.params ea)).setWidth 32) := by
  rw [State.loadByte, State.load8_readable h, Option.map_some]

theorem State.loadSignedByte_readable (h : Readable s.params ea) :
    s.loadSignedByte ea = some ((Memory.read s.mem (cellOf s.params ea)).signExtend 32) := by
  rw [State.loadSignedByte, State.load8_readable h, Option.map_some]

theorem State.loadHalf_readable (h : Readable s.params (align2 ea)) :
    s.loadHalf ea =
      some (if ea.getLsbD 0 then
          ((Memory.read16 s.mem (cellOf s.params (align2 ea))).setWidth 32).rotateRight 8
        else (Memory.read16 s.mem (cellOf s.params (align2 ea))).setWidth 32) := by
  rw [State.loadHalf, State.load16_readable h, Option.map_some]
  rfl

/-- From storage a load gives the value of its kind (44 R242, R244, R246, R251, R253, R254, R256). -/
theorem State.loadAs_readable {k : LoadKind} (h : Readable s.params (k.busAddress ea)) :
    ∃ v, s.loadAs k ea = some v ∧ LoadsAs k s ea v := by
  cases k with
  | word =>
    refine ⟨_, State.loadWord_readable h, fun j hj => ?_⟩
    rw [extractLsb'_rotateRight_bytes _ (by omega) hj, Memory.extractLsb'_read32 _ _ (by omega), Nat.mod_add_mod]
  | byte => exact ⟨_, State.loadByte_readable h, BitVec.toNat_setWidth_of_le (by decide)⟩
  | signedByte => exact ⟨_, State.loadSignedByte_readable h, BitVec.toInt_signExtend_of_le (by decide)⟩
  | half =>
    refine ⟨_, State.loadHalf_readable h, ?_⟩
    rw [LoadsAs]
    cases hodd : ea.getLsbD 0 with
    | true => exact rotateRight_halfword _ _
    | false =>
      rw [align2_of_even hodd]
      exact (BitVec.toNat_setWidth_of_le (by decide)).trans (toNat_append_bytes _ _)
  | signedHalf =>
    simp only [State.loadAs, LoadsAs]
    cases hodd : ea.getLsbD 0 with
    | true =>
      rw [State.loadSignedHalf_odd s hodd]
      exact ⟨_, State.loadSignedByte_readable h, BitVec.toInt_signExtend_of_le (by decide)⟩
    | false =>
      rw [State.loadSignedHalf_even s hodd, State.load16_readable (a := ea) h]
      exact ⟨_, rfl, BitVec.toInt_signExtend_of_le (by decide)⟩

end

end Sys2Proof.Machine
end

section
/-! PROOF. The wide single loads (44 R240 to R256): each is the load of its kind under its condition and its operand
check, and it writes the base back and then Rd. -/

namespace Sys2Proof.Machine

/-! ## The form of the wide single loads -/

theorem exec_sdtLoad {op : SdtOp} {k : LoadKind} (hk : op.kind = some k) (c : Cond) (mode : SdtMode) (u : Bool)
    (rn rd : Reg) (off : SdtOffset) (st : State) :
    exec (sdtInstr op c mode u rn rd off) st =
      st.ifPassed c (guarded (sdtInstr op c mode u rn rd off).unpredictable
        (st.load rn rd (transfer mode.p u mode.w (st.reg rn) (off.value st))
          (st.loadAs k (transfer mode.p u mode.w (st.reg rn) (off.value st)).ea))) := by
  cases op <;> cases hk <;> cases off <;> cases mode <;> rfl

theorem exec_hwLoad {op : HwOp} {k : LoadKind} (hk : op.kind = some k) (c : Cond) (p u w : Bool) (rn rd : Reg)
    (off : HwOffset) (st : State) :
    exec (hwInstr op c p u w rn rd off) st =
      st.ifPassed c (guarded (hwInstr op c p u w rn rd off).unpredictable
        (st.loadGuard k (transfer p u w (st.reg rn) (off.value st)).ea
          (st.load rn rd (transfer p u w (st.reg rn) (off.value st))
            (st.loadAs k (transfer p u w (st.reg rn) (off.value st)).ea)))) := by
  cases op <;> cases hk <;> cases off <;> rfl

/-- An instruction whose condition passes and whose operands are allowed runs its body. -/
theorem State.passed_guarded {st : State} {c : Cond} (hc : Cond.holds c st.cpsr = true) {i : Instr} (hi : i.wf = true)
    (k : Outcome) : st.ifPassed c (guarded i.unpredictable k) = k := by
  rw [State.ifPassed_pos hc, guarded_none (unpredictable_of_wf hi)]

/-- A well-formed halfword or signed transfer does not move r15 (93 U8). -/
theorem hwInstr_rd_ne_pc {op : HwOp} {c : Cond} {p u w : Bool} {rn rd : Reg} {off : HwOffset}
    (h : (hwInstr op c p u w rn rd off).unpredictable = none) : rd ≠ 15 := by
  have hb : (rd == 15) = false := by
    cases off <;> cases op <;> exact (firstOf_cons_none.1 (firstOf_cons_none.1 (firstOf_cons_none.1 h).2).2).1
  simpa using hb

/-! ## Write-back and destination -/

/-- Write-back writes at most the base register (44 R241). -/
theorem State.writeBack_kept (st : State) {rn : Reg} {x : Transfer} (hw : x.wb = true → rn ≠ 15) :
    (x.wb = true → (st.writeBack rn x).reg rn = x.idx) ∧
      RegsKeptBut (if x.wb = true then [rn] else []) st (st.writeBack rn x) ∧ PcKept st (st.writeBack rn x) ∧
      (st.writeBack rn x).cpsr = st.cpsr ∧ SystemKept st (st.writeBack rn x) ∧ MemKept st (st.writeBack rn x) := by
  unfold State.writeBack
  split
  · next hx =>
    obtain ⟨hregs, hpc, hsystem, hmem⟩ := st.setReg_kept (hw hx) x.idx
    exact ⟨fun _ => State.reg_setReg_self .., hregs, hpc, rfl, hsystem, hmem⟩
  · next hx =>
    exact ⟨fun h => absurd h hx, fun _ _ _ => rfl, ⟨rfl, rfl⟩, rfl, ⟨rfl, rfl, rfl, rfl, rfl, rfl, rfl⟩, fun _ => rfl⟩

/-- A write of a destination, r15 among them, writes that register alone (44 R242). -/
theorem State.writeReg_kept (s : State) (rd : Reg) (v : Word) :
    (s.writeReg rd v).reg rd = v ∧ (∀ q, q ≠ rd → (s.writeReg rd v).reg q = s.reg q) ∧
      (rd = 15 → (s.writeReg rd v).redirected = true) ∧ (rd ≠ 15 → (s.writeReg rd v).redirected = s.redirected) ∧
      (s.writeReg rd v).cpsr = s.cpsr ∧ SystemKept s (s.writeReg rd v) ∧ MemKept s (s.writeReg rd v) := by
  obtain ⟨rfl, h⟩ | ⟨hne, h⟩ := s.writeReg_eq rd v <;> rw [h]
  · exact ⟨State.reg_setReg_self .., fun q hq => State.reg_setReg_ne _ _ hq, fun _ => rfl, fun h => absurd rfl h, rfl,
      ⟨rfl, rfl, rfl, rfl, rfl, rfl, rfl⟩, fun _ => rfl⟩
  · exact ⟨State.reg_setReg_self .., fun q hq => State.reg_setReg_ne _ _ hq, fun h => absurd h hne, fun _ => rfl, rfl,
      ⟨rfl, rfl, rfl, rfl, rfl, rfl, rfl⟩, fun _ => rfl⟩

theorem SystemKept.trans {s t u : State} (h : SystemKept s t) (h' : SystemKept t u) : SystemKept s u := by
  obtain ⟨hsp, hb, hd, hn, hh, hw, hp⟩ := h
  obtain ⟨hsp', hb', hd', hn', hh', hw', hp'⟩ := h'
  exact ⟨hsp'.trans hsp, hb'.trans hb, hd'.trans hd, hn'.trans hn, hh'.trans hh, hw'.trans hw, hp'.trans hp⟩

/-- A load that its bus call answers: Rd, the base, and all that it leaves alone (44 R241, R242). -/
theorem State.load_result (st : State) {rn : Reg} (rd : Reg) {x : Transfer} (hw : x.wb = true → rn ≠ 15) (v : Word) :
    ∃ t, st.load rn rd x (some v) = .next t ∧ t.reg rd = v ∧ (rd = 15 → t.redirected = true) ∧
      (x.wb = true → rn ≠ rd → t.reg rn = x.idx) ∧ RegsKeptBut (if x.wb = true then [rd, rn] else [rd]) st t ∧
      (rd ≠ 15 → PcKept st t) ∧ t.cpsr = st.cpsr ∧ SystemKept st t ∧ MemKept st t := by
  obtain ⟨hidx, hbase, ⟨hpc, hmark⟩, hc, hsystem, hmem⟩ := st.writeBack_kept hw
  obtain ⟨hrd, hregs, hbranch, hmark', hc', hsystem', hmem'⟩ := (st.writeBack rn x).writeReg_kept rd v
  refine ⟨_, rfl, hrd, hbranch, fun hx hne => (hregs rn hne).trans (hidx hx), fun q h15 hq => ?_,
    fun h => ⟨(hregs 15 h.symm).trans hpc, (hmark' h).trans hmark⟩, hc'.trans hc, hsystem.trans hsystem',
    fun a => (hmem' a).trans (hmem a)⟩
  have hds : (if x.wb = true then [rd, rn] else [rd]) = rd :: if x.wb = true then [rn] else [] :=
    (apply_ite (List.cons rd) _ _ _).symm
  rw [hds] at hq
  exact (hregs q (List.ne_of_not_mem_cons hq)).trans (hbase q h15 (List.not_mem_of_not_mem_cons hq))

/-- Settles O24: the word or byte comes from storage, and the load writes the base back and then Rd. -/
theorem loadWordByteResult : Obligations.LoadWordByteResult := by
  intro op k c mode u rn rd off st idx ea hk hc hwf hidx hea hr
  subst hidx hea
  obtain ⟨v, hv, hloads⟩ := State.loadAs_readable hr
  obtain ⟨t, ht, hrd, hbranch, hbase, hregs, hkept⟩ :=
    st.load_result rd (x := transfer mode.p u mode.w (st.reg rn) (off.value st))
      (sdtInstr_base_ne_pc (unpredictable_of_wf hwf)) v
  simp only [transfer_wb] at hbase hregs
  rw [exec_sdtLoad hk, State.passed_guarded hc hwf]
  exact ⟨t, (congrArg _ hv).trans ht, hrd ▸ hloads, hbranch, hbase, hregs, hkept⟩

/-- Settles O25: the guard refuses the odd halfword address or lets it pass, and the load from storage does the rest. -/
theorem loadHalfSignedResult : Obligations.LoadHalfSignedResult := by
  intro op k c p u w rn rd off st idx ea hk hc hwf hidx hea
  subst hidx hea
  rw [exec_hwLoad hk, State.passed_guarded hc hwf]
  refine ⟨fun hodd hp => State.loadGuard_refused hodd hp _, fun hr hodd => ?_⟩
  obtain ⟨v, hv, hloads⟩ := State.loadAs_readable hr
  obtain ⟨t, ht, hrd, _, hbase, hregs, hpc, hkept⟩ :=
    st.load_result rd (x := transfer p u w (st.reg rn) (off.value st))
      (hwInstr_base_ne_pc (unpredictable_of_wf hwf)) v
  simp only [transfer_wb] at hbase hregs
  exact ⟨t, (State.loadGuard_passed hodd _).trans ((congrArg _ hv).trans ht), hrd ▸ hloads, hbase, hregs,
    hpc (hwInstr_rd_ne_pc (unpredictable_of_wf hwf)), hkept⟩

end Sys2Proof.Machine
end

section
/-! PROOF. The narrow loads (48 R370 to R388): each is the load of its kind under the guard on odd addresses, and writes
Rd alone. -/

namespace Sys2Proof.Machine

theorem exec_tLoad (op : TLoad) (ro : LoReg) (imm5 : BitVec 5) (rb rd : LoReg) (st : State) :
    exec (tLoadInstr op ro imm5 rb rd) st =
      st.loadGuard op.kind (op.address ro imm5 rb st)
        (st.loadLo rd (st.loadAs op.kind (op.address ro imm5 rb st))) := by
  cases op <;> rfl

/-- `zext(imm) * 4` as a number (30_encoding R127). -/
theorem scaled4_eq_ofNat (imm8 : BitVec 8) : scaled4 imm8 = BitVec.ofNat 32 (4 * imm8.toNat) := by
  have := imm8.isLt
  rw [scaled4]
  bv_omega

theorem rotateRight_zero_word (v : Word) : v.rotateRight 0 = v := by
  refine BitVec.eq_of_getLsbD_eq fun i hi => ?_
  rw [getLsbD_rotateRight_word v (by decide) hi, Nat.add_zero, Nat.mod_eq_of_lt hi]

/-- A word load at a word's own address needs no rotation (44 R246). -/
theorem State.loadWord_aligned (s : State) {ea : Word} (h : ea.toNat % 4 = 0) : s.loadWord ea = s.load32 ea := by
  simp only [State.loadWord, align4_of_mod h, h, Nat.mul_zero, rotateRight_zero_word, Option.map_id_fun', id]

/-- The address of a PC-relative load is a word's own (48 R370). -/
theorem State.pcRelative_mod (st : State) (imm8 : BitVec 8) : (st.pcRelative imm8).toNat % 4 = 0 := by
  have hpc := align4_toNat (st.reg 15)
  rw [State.pcRelative, scaled4_eq_ofNat, BitVec.toNat_add, BitVec.toNat_ofNat, hpc]
  omega

theorem exec_tLdrPc (rd : LoReg) (imm8 : BitVec 8) (st : State) :
    exec (.tLdrPc rd imm8) st =
      st.loadLo rd (st.loadAs .word ((st.reg 15 &&& 0xFFFFFFFC) + BitVec.ofNat 32 (4 * imm8.toNat))) := by
  rw [← scaled4_eq_ofNat]
  exact congrArg (st.loadLo rd) (st.loadWord_aligned (st.pcRelative_mod imm8)).symm

theorem exec_tLdrSp (rd : LoReg) (imm8 : BitVec 8) (st : State) :
    exec (.tLdrSp rd imm8) st = st.loadLo rd (st.loadAs .word (st.reg 13 + BitVec.ofNat 32 (4 * imm8.toNat))) := by
  rw [← scaled4_eq_ofNat]
  rfl

/-- A narrow load from storage: Rd gets the value of its kind, and nothing else changes (48 R371). -/
theorem State.loadLo_readable {st : State} {k : LoadKind} {ea : Word} (h : Readable st.params (k.busAddress ea))
    (rd : LoReg) :
    ∃ t, st.loadLo rd (st.loadAs k ea) = .next t ∧ LoadsAs k st ea (t.reg (low rd)) ∧ RegsKeptBut [low rd] st t ∧
      PcKept st t ∧ t.cpsr = st.cpsr ∧ SystemKept st t ∧ MemKept st t := by
  obtain ⟨v, hv, hloads⟩ := State.loadAs_readable h
  obtain ⟨hregs, hpc, hsystem, hmem⟩ := st.setReg_kept (low_ne_pc rd) v
  refine ⟨_, congrArg _ hv, ?_, hregs, hpc, rfl, hsystem, hmem⟩
  rw [State.reg_setReg_self]
  exact hloads

/-- Settles O45: each narrow load is the load of its kind, the two with an 8-bit offset among them. -/
theorem narrowLoadResult : Obligations.NarrowLoadResult := by
  refine ⟨fun op ro rb rd imm5 st ea hea => ?_, fun rd imm8 i st ea hi hr => ?_⟩
  · subst hea
    rw [exec_tLoad]
    refine ⟨fun hodd hp => State.loadGuard_refused hodd hp _, fun hr hodd => ?_⟩
    rw [State.loadGuard_passed hodd]
    exact State.loadLo_readable hr rd
  · obtain ⟨rfl, rfl⟩ | ⟨rfl, rfl⟩ := hi
    · rw [exec_tLdrPc]
      exact State.loadLo_readable (k := .word) hr rd
    · rw [exec_tLdrSp]
      exact State.loadLo_readable (k := .word) hr rd

end Sys2Proof.Machine
end

section
/-! PROOF. Stores to storage (44 R243, R245, R247, R248, R252): the store of each width leaves its bytes in their cells,
and the wide single stores write the base back after it. -/

namespace Sys2Proof.Machine

/-! ## The store of each width -/

/-- The store of the low 1, 2 or 4 bytes of `v`, none where its bus call fails. -/
def State.storeAs (s : State) (n : Nat) (ea v : Word) : Option State :=
  if n = 4 then s.storeWord ea v else if n = 2 then s.storeHalf ea v else s.storeByte ea v

/-- A store answers nothing where its bus call fails (20_memory R101). -/
theorem storeFails.storeAs {n : Nat} {st : State} {ea v : Word} (h : storeFails n st ea v) : st.storeAs n ea v = none := by
  by_cases h4 : n = 4
  · subst h4
    exact h
  · by_cases h2 : n = 2
    · subst h2
      exact h
    · rw [storeFails, if_neg h4, if_neg h2] at h
      rw [State.storeAs, if_neg h4, if_neg h2]
      exact h

theorem Memory.stored_write32 {s : State} (hm : Memory.wf s.mem = true) (c : Nat) (v : Word) :
    Stored c 4 v s { s with mem := Memory.write32 s.mem c v } :=
  ⟨fun _ hj => Memory.read_write32_at hm c v hj, fun _ hk => Memory.read_write32_outside hm v hk⟩

theorem Memory.stored_write16 {s : State} (hm : Memory.wf s.mem = true) (c : Nat) (v : Word) :
    Stored c 2 v s { s with mem := Memory.write16 s.mem c (v.setWidth 16) } := by
  refine ⟨fun j hj => ?_, fun _ hk => Memory.read_write16_outside hm _ hk⟩
  rw [Memory.read_write16 hm, ← BitVec.extractLsb'_setWidth_of_le (b := v) (show 8 * j + 8 ≤ 16 by omega)]
  interval_cases j <;> simp

theorem Memory.stored_write {s : State} (hm : Memory.wf s.mem = true) (c : Nat) (v : Word) :
    Stored c 1 v s { s with mem := Memory.write s.mem c (v.setWidth 8) } := by
  refine ⟨fun j hj => ?_, fun _ hk => Memory.read_write_outside hm _ hk⟩
  obtain rfl : j = 0 := by omega
  exact (Memory.read_write hm c _ c).trans ((if_pos rfl).trans (BitVec.setWidth_eq_extractLsb' (by decide)))

/-- A store that storage takes changes the memory alone, and of it the stored bytes (44 R243, R245, R252). -/
theorem State.storeAs_inMemory {st : State} {n : Nat} (hn : n = 4 ∨ n = 2 ∨ n = 1) {ea : Word}
    (hm : Memory.wf st.mem = true) (h : InMemory st.params (storeAddress n ea)) (v : Word) :
    ∃ m, st.storeAs n ea v = some { st with mem := m } ∧
      Stored (cellOf st.params (storeAddress n ea)) n v st { st with mem := m } := by
  obtain ⟨bank, off, r, ht, _, hr⟩ := h
  rw [cellOf_node ht]
  obtain rfl | rfl | rfl := hn
  · exact ⟨_, State.store32_cells v ht hr, Memory.stored_write32 hm _ v⟩
  · exact ⟨_, State.store16_cells _ ht hr, Memory.stored_write16 hm _ v⟩
  · exact ⟨_, State.store8_cells _ ht hr, Memory.stored_write hm _ v⟩

/-! ## The form of the single stores -/

/-- The word and byte stores as one: r15 stores A + 12, and a byte store does not have it (44 R243, R245, R247). -/
theorem exec_sdtStore {isByte : Bool} {c : Cond} {mode : SdtMode} {u : Bool} {rn rd : Reg} {off : SdtOffset} {st : State}
    (hc : Cond.holds c st.cpsr = true) (hwf : (sdtInstr (if isByte then .strb else .str) c mode u rn rd off).wf = true) :
    exec (sdtInstr (if isByte then .strb else .str) c mode u rn rd off) st =
      st.store rn (transfer mode.p u mode.w (st.reg rn) (off.value st))
        (st.storeAs (if isByte then 1 else 4) (transfer mode.p u mode.w (st.reg rn) (off.value st)).ea
          (if rd = 15 then st.reg 15 + 4 else st.reg rd)) := by
  cases isByte with
  | false => exact (exec_str ..).trans (State.passed_guarded hc hwf _)
  | true =>
    rw [if_neg (strb_source_ne_pc (unpredictable_of_wf hwf))]
    exact (exec_strb ..).trans (State.passed_guarded hc hwf _)

theorem exec_tStore (op : TStore) (ro : LoReg) (imm5 : BitVec 5) (rb rd : LoReg) (st : State) :
    exec (tStoreInstr op ro imm5 rb rd) st =
      st.storeLo (st.storeAs op.bytes (op.address ro imm5 rb st) (st.reg (low rd))) := by
  cases op <;> rfl

theorem exec_tStrSp (rd : LoReg) (imm8 : BitVec 8) (st : State) :
    exec (.tStrSp rd imm8) st =
      st.storeLo (st.storeAs 4 (st.reg 13 + BitVec.ofNat 32 (4 * imm8.toNat)) (st.reg (low rd))) := by
  rw [← scaled4_eq_ofNat]
  rfl

/-! ## The store with its write-back -/

/-- A store that storage took, its write-back after it: the bytes, the base, and all that it leaves alone (44 R241). -/
theorem State.store_result {st : State} {rn : Reg} {x : Transfer} (hw : x.wb = true → rn ≠ 15) {m : List Host.Cell}
    {lo n : Nat} {v : Word} (hs : Stored lo n v st { st with mem := m }) :
    ∃ t, st.store rn x (some { st with mem := m }) = .next t ∧ Stored lo n v st t ∧ (x.wb = true → t.reg rn = x.idx) ∧
      RegsKeptBut (if x.wb = true then [rn] else []) st t ∧ PcKept st t ∧ t.cpsr = st.cpsr ∧ SystemKept st t := by
  obtain ⟨hbase, hregs, hpc, hc, hsystem, hmem⟩ := State.writeBack_kept { st with mem := m } hw
  obtain ⟨hbytes, hother⟩ := hs
  exact ⟨_, rfl, ⟨fun j hj => (hmem _).trans (hbytes j hj), fun a ha => (hmem a).trans (hother a ha)⟩, hbase, hregs, hpc,
    hc, hsystem⟩

/-- Settles O26: the store leaves its bytes in storage, and the write-back adds the base register. -/
theorem storeResult : Obligations.StoreResult := by
  refine ⟨fun isByte c mode u rn rd off st idx ea hm hc hwf hidx hea hin => ?_,
    fun c p u w rn rd off st idx ea hm hc hwf hidx hea hin => ?_⟩
  · subst hidx hea
    have hn : (if isByte then 1 else 4) = 4 ∨ (if isByte then 1 else 4) = 2 ∨ (if isByte then 1 else 4) = 1 := by
      cases isByte <;> decide
    obtain ⟨m, hstore, hs⟩ := State.storeAs_inMemory hn hm hin (if rd = 15 then st.reg 15 + 4 else st.reg rd)
    obtain ⟨t, ht, hbytes, hbase, hregs, hkept⟩ :=
      State.store_result (x := transfer mode.p u mode.w (st.reg rn) (off.value st))
        (sdtInstr_base_ne_pc (unpredictable_of_wf hwf)) hs
    simp only [transfer_wb] at hbase hregs
    rw [exec_sdtStore hc hwf]
    exact ⟨t, (congrArg _ hstore).trans ht, hbytes, hbase, hregs, hkept⟩
  · subst hidx hea
    obtain ⟨m, hstore, hs⟩ := State.storeAs_inMemory (.inr (.inl rfl)) hm hin (st.reg rd)
    obtain ⟨t, ht, hbytes, hbase, hregs, hkept⟩ :=
      State.store_result (x := transfer p u w (st.reg rn) (off.value st))
        (hwInstr_base_ne_pc (unpredictable_of_wf hwf)) hs
    simp only [transfer_wb] at hbase hregs
    rw [exec_strh, State.passed_guarded hc hwf]
    exact ⟨t, (congrArg _ hstore).trans ht, hbytes, hbase, hregs, hkept⟩

end Sys2Proof.Machine
end

section
/-! PROOF. A single transfer or a swap whose bus call fails enters Data Abort from the state as it was (44 R241, 45 R284,
R285, 48 R371, 60 R431). -/

namespace Sys2Proof.Machine

/-! ## The body of each transfer, its bus call failing -/

section
variable {st : State} {k : LoadKind} {n : Nat} {ea v : Word}

theorem LoadKind.fails.load (h : k.fails st ea) (rn rd : Reg) (x : Transfer) :
    st.load rn rd x (st.loadAs k ea) = .next (st.enter .dataAbort) := by rw [h.loadAs]; rfl

theorem LoadKind.fails.loadLo (h : k.fails st ea) (rd : LoReg) :
    st.loadLo rd (st.loadAs k ea) = .next (st.enter .dataAbort) := by rw [h.loadAs]; rfl

theorem storeFails.store (h : storeFails n st ea v) (rn : Reg) (x : Transfer) :
    st.store rn x (st.storeAs n ea v) = .next (st.enter .dataAbort) := by rw [h.storeAs]; rfl

theorem storeFails.storeLo (h : storeFails n st ea v) :
    st.storeLo (st.storeAs n ea v) = .next (st.enter .dataAbort) := by rw [h.storeAs]; rfl

/-- A swap one of whose two calls fails, the load or the store (45 R284). -/
theorem State.swap_fails (h : k.fails st ea ∨ storeFails n st ea v) (rd : Reg) :
    st.swap rd (st.loadAs k ea) (st.storeAs n ea v) = .next (st.enter .dataAbort) := by
  obtain h | h := h
  · rw [h.loadAs]
    rfl
  · rw [h.storeAs]
    cases st.loadAs k ea <;> rfl

end

/-- Settles O28: the body of each transfer answers the Data Abort entry where its bus call gives nothing. -/
theorem failedAccessAborts : Obligations.FailedAccessAborts := by
  refine ⟨fun op c mode u rn rd off st ea hc hwf hea hf => ?_, fun op c p u w rn rd off st ea hc hwf hea hf => ?_,
    fun op ro rb rd imm5 st ea hea hodd hf => ?_, fun op ro rb rd imm5 st hf => ?_, fun c rn rd rm st hc => ⟨?_, ?_⟩,
    fun rd imm8 st => ⟨fun hf => ?_, fun hf => ?_, fun hf => ?_⟩⟩
  · subst hea
    cases op with
    | ldr =>
      rw [exec_sdtLoad rfl, State.passed_guarded hc hwf]
      exact LoadKind.fails.load (k := .word) hf rn rd _
    | ldrb =>
      rw [exec_sdtLoad rfl, State.passed_guarded hc hwf]
      exact LoadKind.fails.load (k := .byte) hf rn rd _
    | str => exact (exec_sdtStore (isByte := false) hc hwf).trans (storeFails.store hf rn _)
    | strb =>
      rw [exec_strb, State.passed_guarded hc hwf]
      exact storeFails.store (n := 1) hf rn _
  · subst hea
    cases hk : op.kind with
    | some k =>
      rw [hk] at hf
      obtain ⟨hodd, hf⟩ := hf
      rw [exec_hwLoad hk, State.passed_guarded hc hwf]
      exact (State.loadGuard_passed hodd _).trans (hf.load rn rd _)
    | none =>
      cases op <;> cases hk
      rw [exec_strh, State.passed_guarded hc hwf]
      exact storeFails.store (n := 2) hf rn _
  · subst hea
    rw [exec_tLoad, State.loadGuard_passed hodd]
    exact hf.loadLo rd
  · rw [exec_tStore]
    exact hf.storeLo
  · intro hwf hf
    exact (State.passed_guarded hc hwf _).trans (State.swap_fails (k := .word) (n := 4) hf rd)
  · intro hwf hf
    exact (State.passed_guarded hc hwf _).trans (State.swap_fails (k := .byte) (n := 1) hf rd)
  · rw [exec_tLdrPc]
    exact hf.loadLo rd
  · rw [exec_tLdrSp]
    exact hf.loadLo rd
  · rw [exec_tStrSp]
    exact hf.storeLo

end Sys2Proof.Machine
end

section
/-! PROOF. The form of the block transfers (45 R270 to R279, 48 R390 to R394): each is one body under its condition and
its operand check, and the narrow lists are lists of sixteen registers. -/

namespace Sys2Proof.Machine

/-! ## Narrow lists -/

theorem narrowList_zero (rlist : BitVec 8) : narrowList 0 rlist = rlist.setWidth 16 := BitVec.zero_or

theorem pushList_eq (r : Bool) (rlist : BitVec 8) :
    pushList r rlist = (0#1 ++ BitVec.ofBool r ++ 0#6 ++ rlist : BitVec 16) := by
  cases r <;> rfl

theorem popList_eq (r : Bool) (rlist : BitVec 8) :
    popList r rlist = (BitVec.ofBool r ++ 0#7 ++ rlist : BitVec 16) := by
  cases r <;> rfl

/-- LDMIA has r15 in no list (48 R394). -/
theorem getLsbD_narrowList_pc (rlist : BitVec 8) : (rlist.setWidth 16).getLsbD 15 = false := by
  rw [BitVec.getLsbD_setWidth, BitVec.getLsbD_of_ge _ _ (by decide), Bool.and_false]

theorem getLsbD_narrowList_low (rlist : BitVec 8) (rb : LoReg) :
    (rlist.setWidth 16).getLsbD (low rb).toNat = rlist.getLsbD rb.toNat := by
  have hlow : (low rb).toNat = rb.toNat := BitVec.toNat_setWidth_of_le (by decide)
  have hlt := rb.isLt
  rw [hlow, BitVec.getLsbD_setWidth, decide_eq_true (by omega), Bool.true_and]

/-- PUSH has neither SP nor r15 in its list (48 R390). -/
theorem getLsbD_pushList (r : Bool) (rlist : BitVec 8) :
    (pushList r rlist).getLsbD 15 = false ∧ (pushList r rlist).getLsbD 13 = false := by
  simp only [pushList_eq, BitVec.getLsbD_append]
  cases r <;> exact ⟨rfl, rfl⟩

/-- The list of the CPSR-restoring LDM has r15 (45 R277). -/
theorem getLsbD_returnList_pc (rlist : BitVec 15) : (1#1 ++ rlist : BitVec 16).getLsbD 15 = true := by
  rw [BitVec.getLsbD_append]
  rfl

/-! ## Operand checks -/

theorem base_ne_pc_of_checkBlock {rn : Reg} {rlist : BitVec 16} (h : checkBlock rn rlist = none) : rn ≠ 15 := by
  obtain ⟨hpc, -⟩ := firstOf_cons_none.1 h
  simpa using hpc

theorem wf_ldmCpsr {rn : Reg} (h : rn ≠ 15) (c : Cond) (p u w : Bool) (rlist : BitVec 15) :
    (Instr.ldmCpsr c p u w rn rlist).wf = true := by
  have hlist : (1#1 ++ rlist : BitVec 16) ≠ 0 := fun e => by
    have hpc := getLsbD_returnList_pc rlist
    rw [e] at hpc
    cases hpc
  have hcheck : checkBlock rn (1#1 ++ rlist) = none :=
    firstOf_cons_none.2 ⟨beq_eq_false_iff_ne.2 h, firstOf_cons_none.2 ⟨beq_eq_false_iff_ne.2 hlist, rfl⟩⟩
  exact Option.isNone_iff_eq_none.2 hcheck

theorem checkNarrowBlock_none {rlist : BitVec 8} (h : rlist ≠ 0) : checkNarrowBlock rlist = none :=
  firstOf_cons_none.2 ⟨beq_eq_false_iff_ne.2 h, rfl⟩

theorem checkStack_none {r : Bool} {rlist : BitVec 8} (h : r = true ∨ rlist ≠ 0) : checkStack r rlist = none := by
  have hempty : (!r && rlist == 0) = false := by
    obtain rfl | h := h
    · rfl
    · rw [beq_eq_false_iff_ne.2 h, Bool.and_false]
  exact firstOf_cons_none.2 ⟨hempty, rfl⟩

/-! ## The bodies -/

section
variable {c : Cond} {p u w r : Bool} {rn : Reg} {rb : LoReg} {rlist : BitVec 16} {rlist15 : BitVec 15}
  {rlist8 : BitVec 8} {st : State}

theorem exec_ldm (hc : Cond.holds c st.cpsr = true) (hwf : (Instr.ldm c p u w rn rlist).wf = true) :
    exec (.ldm c p u w rn rlist) st = st.loadMultiple p u w rn rlist := State.passed_guarded hc hwf _

theorem exec_stm (hc : Cond.holds c st.cpsr = true) (hwf : (Instr.stm c p u w rn rlist).wf = true) :
    exec (.stm c p u w rn rlist) st = st.storeMultiple p u w rn rlist := State.passed_guarded hc hwf _

theorem exec_ldmCpsr (hc : Cond.holds c st.cpsr = true) (hwf : (Instr.ldmCpsr c p u w rn rlist15).wf = true) :
    exec (.ldmCpsr c p u w rn rlist15) st = st.loadReturn p u w rn (1#1 ++ rlist15) := State.passed_guarded hc hwf _

theorem exec_ldmUser (hc : Cond.holds c st.cpsr = true) (hwf : (Instr.ldmUser c p u w rn rlist15).wf = true) :
    exec (.ldmUser c p u w rn rlist15) st = st.loadUser p u rn (0#1 ++ rlist15) := State.passed_guarded hc hwf _

theorem exec_stmUser (hc : Cond.holds c st.cpsr = true) (hwf : (Instr.stmUser c p u w rn rlist).wf = true) :
    exec (.stmUser c p u w rn rlist) st = st.storeUser p u rn rlist := State.passed_guarded hc hwf _

theorem exec_tLdmia (h : checkNarrowBlock rlist8 = none) :
    exec (.tLdmia rb rlist8) st = st.loadMultiple false true true (low rb) (rlist8.setWidth 16) :=
  narrowList_zero rlist8 ▸ guarded_none h _

theorem exec_tStmia (h : checkNarrowBlock rlist8 = none) :
    exec (.tStmia rb rlist8) st = st.storeMultiple false true true (low rb) (rlist8.setWidth 16) :=
  narrowList_zero rlist8 ▸ guarded_none h _

theorem exec_tPop (h : checkStack r rlist8 = none) :
    exec (.tPop r rlist8) st = st.pop (BitVec.ofBool r ++ 0#7 ++ rlist8) :=
  popList_eq r rlist8 ▸ guarded_none h _

theorem exec_tPush (h : checkStack r rlist8 = none) :
    exec (.tPush r rlist8) st = st.storeMultiple true false true 13 (pushList r rlist8) := guarded_none h _

end

end Sys2Proof.Machine
end

section
/-! PROOF. The loads of a block transfer (45 R270 to R273): the registers of the list below r15 get the words of their
places, in order, and the word of r15 comes last and is the branch target. -/

namespace Sys2Proof.Machine

/-! ## The register list -/

/-- The registers of a list below r15, ascending. -/
def belowPc (list : BitVec 16) : List Reg := allRegs.dropLast.filter fun r => list.getLsbD r.toNat

/-- r15 is the last register of its list. -/
theorem regList_eq (list : BitVec 16) : regList list = belowPc list ++ if list.getLsbD 15 then [15] else [] := by
  rw [regList, show allRegs = allRegs.dropLast ++ [15] from rfl, List.filter_append, List.filter_cons, List.filter_nil]
  rfl

theorem mem_regList {list : BitVec 16} {r : Reg} : r ∈ regList list ↔ list.getLsbD r.toNat = true := by
  have hall : ∀ r : Reg, r ∈ allRegs := by decide
  simp [regList, hall]

theorem regList_nodup (list : BitVec 16) : (regList list).Nodup := List.Nodup.filter _ (by decide)

theorem belowPc_nodup (list : BitVec 16) : (belowPc list).Nodup := List.Nodup.filter _ (by decide)

theorem pc_not_mem_belowPc (list : BitVec 16) : 15 ∉ belowPc list := fun h =>
  absurd (List.mem_of_mem_filter h) (by decide)

theorem belowPc_subset (list : BitVec 16) : belowPc list ⊆ regList list := by
  rw [regList_eq]
  exact List.subset_append_left ..

theorem listCount_eq (list : BitVec 16) : listCount list = (belowPc list).length + (list.getLsbD 15).toNat := by
  rw [listCount, regList_eq, List.length_append]
  cases list.getLsbD 15 <;> rfl

/-- r15 aside, a register stands at the same place of the list with and without r15. -/
theorem belowPc_getElem? {list : BitVec 16} {k : Nat} {r : Reg} (h : (regList list)[k]? = some r) (hr : r ≠ 15) :
    (belowPc list)[k]? = some r := by
  rw [regList_eq, List.getElem?_append] at h
  split at h
  · exact h
  · refine absurd (List.mem_of_getElem? h) ?_
    split
    · exact List.not_mem_cons_of_ne_of_not_mem hr List.not_mem_nil
    · exact List.not_mem_nil

/-- The registers before the last one are below r15. -/
theorem pc_not_mem_take {list : BitVec 16} {k : Nat} (h : k < listCount list) : 15 ∉ (regList list).take k := by
  have hle : k ≤ (belowPc list).length := by
    have := Bool.toNat_le (list.getLsbD 15)
    rw [listCount_eq] at h
    omega
  rw [regList_eq, List.take_append_of_le_length hle]
  exact fun hmem => pc_not_mem_belowPc list (List.mem_of_mem_take hmem)

/-! ## The places -/

theorem add_four_add (a : Word) (n : Nat) : a + 4 + BitVec.ofNat 32 (4 * n) = a + BitVec.ofNat 32 (4 * (n + 1)) := by
  rw [Nat.mul_succ, Nat.add_comm, BitVec.ofNat_add, BitVec.add_assoc]
  rfl

theorem slot_zero (a : Word) : slot a 0 = align4 a := congrArg align4 (BitVec.add_zero a)

theorem slot_succ (a : Word) (k : Nat) : slot a (k + 1) = slot (a + 4) k := congrArg align4 (add_four_add a k).symm

/-! ## Writing words to registers one after the other -/

/-- The state after the words `word 0`, `word 1`, … are written to the registers of a list. -/
def State.putWords (put : State → Reg → Word → State) : List Reg → (Nat → Word) → State → State
  | [], _, s => s
  | r :: rs, word, s => State.putWords put rs (fun k => word (k + 1)) (put s r (word 0))

/-- What every write to a register of the list keeps, the writes keep. -/
theorem State.putWords_kept {put : State → Reg → Word → State} {P : State → Prop} {rs : List Reg}
    (hput : ∀ s r v, r ∈ rs → P s → P (put s r v)) (word : Nat → Word) {s : State} (h : P s) :
    P (s.putWords put rs word) := by
  induction rs generalizing word s with
  | nil => exact h
  | cons r rs ih =>
    exact ih (fun s q v hq => hput s q v (List.mem_cons_of_mem r hq)) _ (hput s r _ List.mem_cons_self h)

/-- A way to read and write one set of registers: a write changes the register written and no other, and no load. -/
structure RegAccess (get : State → Reg → Word) (put : State → Reg → Word → State) : Prop where
  get_put : ∀ s r v q, get (put s r v) q = if q = r then v else get s q
  load32_put : ∀ s r v a, (put s r v).load32 a = s.load32 a

theorem regAccess_live : RegAccess State.reg State.setReg where
  get_put s r v q := State.reg_setReg s r q v
  load32_put s _ _ a := State.load32_congr (s := s) a rfl rfl rfl rfl rfl

/-- The state of a block load cut short at the `k0`-th register of its list (45 R279). -/
def State.loadedBefore (st : State) (put : State → Reg → Word → State) (list : BitVec 16) (start : Word) (k0 : Nat) :
    State := st.putWords put ((regList list).take k0) fun k => (st.load32 (slot start k)).getD 0

section
variable {get : State → Reg → Word} {put : State → Reg → Word → State} (h : RegAccess get put)
include h

theorem RegAccess.get_putWords_of_not_mem {rs : List Reg} {q : Reg} (hq : q ∉ rs) (word : Nat → Word) (s : State) :
    get (s.putWords put rs word) q = get s q := by
  refine State.putWords_kept (P := fun t => get t q = get s q) (fun t r v hr ht => ?_) word rfl
  have hne : q ≠ r := fun e => hq (e ▸ hr)
  rw [h.get_put, if_neg hne, ht]

theorem RegAccess.get_putWords {rs : List Reg} (hn : rs.Nodup) {k : Nat} {r : Reg} (hk : rs[k]? = some r)
    (word : Nat → Word) (s : State) : get (s.putWords put rs word) r = word k := by
  induction rs generalizing word s k with
  | nil => cases hk
  | cons q rs ih =>
    obtain ⟨hq, hn⟩ := List.nodup_cons.1 hn
    cases k with
    | zero =>
      cases hk
      rw [State.putWords, h.get_putWords_of_not_mem hq, h.get_put, if_pos rfl]
    | succ k => exact ih hn hk _ _

theorem RegAccess.load32_putWords (rs : List Reg) (word : Nat → Word) (s : State) (a : Word) :
    (s.putWords put rs word).load32 a = s.load32 a :=
  State.putWords_kept (P := fun t => t.load32 a = s.load32 a) (fun t r v _ ht => (h.load32_put t r v a).trans ht) word
    rfl

/-! ## The loads -/

/-- Loads that succeed, r15 not among their registers, and then the loads of the rest (45 R270, R273). -/
theorem RegAccess.loadBlock_append {rs : List Reg} (rs' : List Reg) (hpc : 15 ∉ rs) {start target : Word} {s : State}
    {word : Nat → Word} (hw : ∀ k, k < rs.length → s.load32 (slot start k) = some (word k)) :
    State.loadBlock put (rs ++ rs') start target s =
      State.loadBlock put rs' (start + BitVec.ofNat 32 (4 * rs.length)) target (s.putWords put rs word) := by
  induction rs generalizing start s word with
  | nil => exact congrArg (State.loadBlock put rs' · target s) (BitVec.add_zero start).symm
  | cons r rs ih =>
    have hr : r ≠ 15 := (List.ne_of_not_mem_cons hpc).symm
    have hfirst : s.load32 (align4 start) = some (word 0) := slot_zero start ▸ hw 0 (Nat.zero_lt_succ _)
    have hrest : ∀ k, k < rs.length → (put s r (word 0)).load32 (slot (start + 4) k) = some (word (k + 1)) :=
      fun k hk => (h.load32_put ..).trans (slot_succ start k ▸ hw (k + 1) (Nat.succ_lt_succ hk))
    rw [List.cons_append, State.loadBlock, hfirst]
    simp only [if_neg hr]
    rw [ih (List.not_mem_of_not_mem_cons hpc) hrest, add_four_add, List.length_cons, State.putWords]

theorem RegAccess.loadBlock_readable {st : State} {list : BitVec 16} {start : Word}
    (hr : SlotsReadable st.params start (listCount list)) :
    State.loadBlock put (regList list) start 0 st =
      .done (st.putWords put (belowPc list) (slotWord st start))
        (if list.getLsbD 15 then slotWord st start (listCount list - 1) else 0) := by
  have hw : ∀ k, k < listCount list → st.load32 (slot start k) = some (slotWord st start k) :=
    fun k hk => State.load32_readable (hr k hk)
  have hlen := listCount_eq list
  rw [regList_eq, h.loadBlock_append _ (pc_not_mem_belowPc list) fun k hk => hw k (by omega)]
  cases hpc : list.getLsbD 15 with
  | false => rfl
  | true =>
    have hlast : listCount list - 1 = (belowPc list).length := by rw [hlen, hpc]; rfl
    have hload := hw (listCount list - 1) (by rw [hlen, hpc]; exact Nat.lt_succ_self _)
    rw [hlast] at hload ⊢
    simp only [if_true, State.loadBlock, h.load32_putWords]
    rw [show st.load32 (align4 (start + BitVec.ofNat 32 (4 * (belowPc list).length))) = _ from hload]

/-- The loads up to the first one that fails (45 R279). -/
theorem RegAccess.loadBlock_fails {st : State} {list : BitVec 16} {start : Word} {k0 : Nat} (hk : k0 < listCount list)
    (hbefore : ∀ k, k < k0 → st.load32 (slot start k) ≠ none) (hfail : st.load32 (slot start k0) = none) :
    State.loadBlock put (regList list) start 0 st = .aborted (st.loadedBefore put list start k0) := by
  have hlen : ((regList list).take k0).length = k0 := List.length_take_of_le (Nat.le_of_lt hk)
  have hw : ∀ k, k < ((regList list).take k0).length →
      st.load32 (slot start k) = some ((st.load32 (slot start k)).getD 0) := fun k hk' => by
    obtain ⟨v, hv⟩ := Option.ne_none_iff_exists'.1 (hbefore k (hlen ▸ hk'))
    rw [hv, Option.getD_some]
  have happend := h.loadBlock_append ((regList list).drop k0) (pc_not_mem_take hk) (target := 0) hw
  rw [List.take_append_drop, hlen, List.drop_eq_getElem_cons hk, State.loadBlock, h.load32_putWords] at happend
  rw [happend, show st.load32 (align4 (start + BitVec.ofNat 32 (4 * k0))) = none from hfail]
  rfl

/-- Where the loads are cut short, the registers before have their words and the others are as before (45 R279). -/
theorem RegAccess.get_loadedBefore {st : State} {list : BitVec 16} {start : Word} {k0 : Nat}
    (hbefore : ∀ k, k < k0 → st.load32 (slot start k) ≠ none) :
    (∀ k x, k < k0 → (regList list)[k]? = some x →
        st.load32 (slot start k) = some (get (st.loadedBefore put list start k0) x)) ∧
      ∀ x, x ∉ (regList list).take k0 → get (st.loadedBefore put list start k0) x = get st x := by
  refine ⟨fun k x hk hx => ?_, fun x hx => h.get_putWords_of_not_mem hx _ _⟩
  obtain ⟨v, hv⟩ := Option.ne_none_iff_exists'.1 (hbefore k hk)
  have hx' : ((regList list).take k0)[k]? = some x := by rwa [List.getElem?_take_of_lt hk]
  rw [State.loadedBefore, h.get_putWords ((regList_nodup list).sublist (List.take_sublist ..)) hx', hv,
    Option.getD_some]

/-- After the loads, every register of the list below r15 holds its word. -/
theorem RegAccess.blockLoaded (st : State) (list : BitVec 16) (start : Word) :
    BlockLoaded (regList list) start (listCount list) st
      (get (st.putWords put (belowPc list) (slotWord st start))) := fun _ _ _ hr h15 =>
  h.get_putWords (belowPc_nodup list) (belowPc_getElem? hr h15) _ _

end

end Sys2Proof.Machine
end

section
/-! PROOF. LDM and the narrow LDMIA from memory, and LDM that restores the CPSR (45 R273, R277, 48 R394): the loads, the
base where it is not in the list, and then the PC. -/

namespace Sys2Proof.Machine

/-! ## The loads with the base's write-back -/

/-- All that a block load leaves alone before it writes the PC. -/
def LoadKept (st t : State) : Prop := PcKept st t ∧ t.cpsr = st.cpsr ∧ SystemKept st t ∧ t.mem = st.mem

theorem LoadKept.refl (st : State) : LoadKept st st := ⟨⟨rfl, rfl⟩, rfl, ⟨rfl, rfl, rfl, rfl, rfl, rfl, rfl⟩, rfl⟩

theorem LoadKept.setReg {st s : State} (h : LoadKept st s) {r : Reg} (hr : r ≠ 15) (v : Word) :
    LoadKept st (s.setReg r v) := by
  obtain ⟨⟨hpc, hmark⟩, hkept⟩ := h
  exact ⟨⟨(State.reg_setReg_ne s v hr.symm).trans hpc, hmark⟩, hkept⟩

theorem LoadKept.putWords {st : State} {rs : List Reg} (h15 : 15 ∉ rs) (word : Nat → Word) :
    LoadKept st (st.putWords State.setReg rs word) :=
  State.putWords_kept (fun _ _ v hr h => h.setReg (ne_of_mem_of_not_mem hr h15) v) word (.refl st)

/-- The base is written where W is set and it is not in the list (45 R273). -/
theorem State.blockBase_cases (s : State) (w : Bool) (rn : Reg) (list : BitVec 16) (final : Word) :
    (w = true ∧ list.getLsbD rn.toNat = false ∧ s.blockBase w rn list final = s.setReg rn final) ∨
    (¬(w = true ∧ list.getLsbD rn.toNat = false) ∧ s.blockBase w rn list final = s) := by
  unfold State.blockBase
  split
  · next h =>
    obtain ⟨hw, hn⟩ := Bool.and_eq_true_iff.1 h
    exact .inl ⟨hw, by simpa using hn, rfl⟩
  · next h => exact .inr ⟨fun ⟨hw, hn⟩ => h (by rw [hw, hn]; rfl), rfl⟩

/-- LDM before its PC write: the words of the places in the registers of the list below r15, and the base. -/
def State.loaded (st : State) (w : Bool) (rn : Reg) (list : BitVec 16) (start final : Word) : State :=
  (st.putWords State.setReg (belowPc list) (slotWord st start)).blockBase w rn list final

theorem State.loaded_result (st : State) (w : Bool) {rn : Reg} (hrn : rn ≠ 15) (list : BitVec 16) (start final : Word) :
    BlockLoaded (regList list) start (listCount list) st (st.loaded w rn list start final).reg ∧
      (w = true → list.getLsbD rn.toNat = false → (st.loaded w rn list start final).reg rn = final) ∧
      RegsKeptBut (if w then rn :: regList list else regList list) st (st.loaded w rn list start final) ∧
      LoadKept st (st.loaded w rn list start final) := by
  have hloaded := regAccess_live.blockLoaded st list start
  have hother : ∀ q, q ∉ regList list →
      (st.putWords State.setReg (belowPc list) (slotWord st start)).reg q = st.reg q := fun q hq =>
    regAccess_live.get_putWords_of_not_mem (fun h => hq (belowPc_subset list h)) _ _
  have hkept : LoadKept st (st.putWords State.setReg (belowPc list) (slotWord st start)) :=
    .putWords (pc_not_mem_belowPc list) _
  obtain ⟨hw, hn, he⟩ | ⟨hno, he⟩ := State.blockBase_cases
    (st.putWords State.setReg (belowPc list) (slotWord st start)) w rn list final
  · have hne : ∀ q, q ∈ regList list → q ≠ rn := fun q hq e => by
      rw [← e, mem_regList.1 hq] at hn
      cases hn
    rw [State.loaded, he, if_pos hw]
    refine ⟨fun k q hk hq h15 => ?_, fun _ _ => State.reg_setReg_self .., fun q _ hq => ?_, hkept.setReg hrn final⟩
    · rw [State.reg_setReg_ne _ _ (hne q (List.mem_of_getElem? hq))]
      exact hloaded k q hk hq h15
    · rw [State.reg_setReg_ne _ _ (List.ne_of_not_mem_cons hq)]
      exact hother q (List.not_mem_of_not_mem_cons hq)
  · rw [State.loaded, he]
    refine ⟨hloaded, fun hw hn => absurd ⟨hw, hn⟩ hno, fun q _ hq => hother q fun hmem => hq ?_, hkept⟩
    split
    · exact List.mem_cons_of_mem rn hmem
    · exact hmem

/-! ## LDM and LDMIA -/

/-- LDM from memory: the loads and the base, and then r15 where the list has it (45 R273). -/
theorem State.loadMultiple_readable {st : State} {p u : Bool} (w : Bool) {rn : Reg} (hrn : rn ≠ 15) {list : BitVec 16}
    {start : Word} (hs : start = blockStart p u (st.reg rn) list)
    (hr : SlotsReadable st.params start (listCount list)) :
    ∃ t, st.loadMultiple p u w rn list = .next t ∧
      BlockLoaded (regList list) start (listCount list) st t.reg ∧
      (w = true → list.getLsbD rn.toNat = false → t.reg rn = blockFinal u (st.reg rn) list) ∧
      (list.getLsbD 15 = true → t.redirected = true ∧ t.reg 15 = slotWord st start (listCount list - 1)) ∧
      RegsKeptBut (if w then rn :: regList list else regList list) st t ∧
      (list.getLsbD 15 = false → PcKept st t) ∧
      t.cpsr = st.cpsr ∧ SystemKept st t ∧ MemKept st t := by
  have hnext : st.loadMultiple p u w rn list =
      .next ((st.loaded w rn list start (blockFinal u (st.reg rn) list)).blockPc list
        (if list.getLsbD 15 then slotWord st start (listCount list - 1) else 0)) := by
    rw [State.loadMultiple, State.ldmLoads, ← hs, regAccess_live.loadBlock_readable hr]
    rfl
  obtain ⟨hloaded, hbase, hregs, hpc, hc, hsystem, hmem⟩ :=
    st.loaded_result w hrn list start (blockFinal u (st.reg rn) list)
  rw [hnext, State.blockPc]
  cases list.getLsbD 15 with
  | false =>
    exact ⟨_, rfl, hloaded, hbase, nofun, hregs, fun _ => hpc, hc, hsystem, fun a => congrArg (Memory.read · a) hmem⟩
  | true =>
    refine ⟨_, rfl, fun k q hk hq h15 => ?_, fun hw hn => ?_, fun _ => ⟨rfl, State.reg_setReg_self ..⟩,
      fun q h15 hq => ?_, nofun, hc, hsystem, fun a => congrArg (Memory.read · a) hmem⟩
    · exact (State.reg_setReg_ne _ _ h15).trans (hloaded k q hk hq h15)
    · exact (State.reg_setReg_ne _ _ hrn).trans (hbase hw hn)
    · exact (State.reg_setReg_ne _ _ h15).trans (hregs q h15 hq)

/-- Settles O29: the narrow form is LDM, incrementing after, with write-back and no r15. -/
theorem loadMultipleResult : Obligations.LoadMultipleResult := by
  refine ⟨fun c p u w rn rlist st start hc hwf hs hr => ?_, fun rb rlist st hne hr => ?_⟩
  · rw [exec_ldm hc hwf]
    exact State.loadMultiple_readable w (base_ne_pc_of_checkBlock (unpredictable_of_wf hwf)) hs hr
  · rw [exec_tLdmia (checkNarrowBlock_none hne)]
    obtain ⟨t, ht, hloaded, hbase, -, hregs, hpc, hkept⟩ :=
      State.loadMultiple_readable (p := false) (u := true) true (low_ne_pc rb) rfl hr
    exact ⟨t, ht, hloaded, fun hn => hbase rfl ((getLsbD_narrowList_low rlist rb).trans hn), hregs,
      hpc (getLsbD_narrowList_pc rlist), hkept⟩

/-! ## LDM that restores the CPSR -/

/-- Settles O32: the status word is restored after the loads and the base, and before the PC. -/
theorem loadMultipleReturn : Obligations.LoadMultipleReturn := by
  intro c p u w rn rlist list st start new hc hrn hlist hs hr
  rw [exec_ldmCpsr hc (wf_ldmCpsr hrn c p u w rlist), ← hlist, State.loadReturn]
  refine ⟨fun hm hnew => ?_, fun hm => if_neg (Bool.eq_false_iff.1 hm)⟩
  obtain ⟨hloaded, hbase, hregs, hpc, hc, hsystem, hmem⟩ :=
    st.loaded_result w hrn list start (blockFinal u (st.reg rn) list)
  refine ⟨_, hloaded, hbase, hregs, hpc, hc, hsystem, hmem, ?_⟩
  have hpc15 : list.getLsbD 15 = true := hlist ▸ getLsbD_returnList_pc rlist
  rw [if_pos hm, State.ldmLoads, ← hs, regAccess_live.loadBlock_readable hr, if_pos hpc15]
  exact State.restoreStatus_of_spsr (hc ▸ hm) (hsystem.1 ▸ hnew)
    fun r => .next (r.branchTo (slotWord st start (listCount list - 1)))

end Sys2Proof.Machine
end

section
/-! PROOF. The User-mode registers and LDM of the user bank (45 R276): a register that the mode has of its own stands in
its cell of the banks, any other one is the live register. -/

namespace Sys2Proof.Machine

/-! ## The User-mode registers -/

theorem Mode.bank_eq_fiq (m : Mode) : m.bank = .fiq ↔ m = .fiq := by cases m <;> decide

theorem Mode.bank_ne_usr_iff (m : Mode) : m.bank ≠ .usr ↔ m ≠ .user ∧ m ≠ .system := by cases m <;> decide

/-- The current mode has a register of its own in the place of the User-mode register (10_state R22). -/
def State.Banked (s : State) (r : Reg) : Prop :=
  (8 ≤ r ∧ r ≤ 12 ∧ s.cpsr.mode.bank = .fiq) ∨ ((r = 13 ∨ r = 14) ∧ s.cpsr.mode.bank ≠ .usr)

/-- A write of a User-mode register changes its cell where the mode has its own, else the live register (45 R276). -/
theorem State.setUsrReg_banked (s : State) (r : Reg) (v : Word) :
    (s.Banked r ∧ ∃ hi c, s.setUsrReg r v = { s with banks := { s.banks with usrHi := hi, usr := c } }) ∨
      (¬s.Banked r ∧ s.setUsrReg r v = s.setReg r v) := by
  unfold State.setUsrReg
  split
  · next h => exact .inl ⟨.inl h, _, s.banks.usr, rfl⟩
  · next hhi =>
    split
    · next h => exact .inl ⟨.inr ⟨.inl h.1, h.2⟩, s.banks.usrHi, _, rfl⟩
    · next h13 =>
      split
      · next h => exact .inl ⟨.inr ⟨.inr h.1, h.2⟩, s.banks.usrHi, _, rfl⟩
      · next h14 =>
        refine .inr ⟨?_, rfl⟩
        rintro (h | ⟨h | h, hb⟩)
        · exact hhi h
        · exact h13 ⟨h, hb⟩
        · exact h14 ⟨h, hb⟩

/-- A cell of r8 to r12 after a write to one of them. -/
theorem getD_setIfInBounds (h : Vector Word 5) {i : Nat} (hi : i < 5) (v : Word) (j : Nat) :
    (h.setIfInBounds i v).toList.getD j 0 = if j = i then v else h.toList.getD j 0 := by
  have hlen : i < h.toList.length := by rwa [Vector.length_toList]
  rw [Vector.toList_setIfInBounds, List.getD_eq_getElem?_getD, List.getD_eq_getElem?_getD, List.getElem?_set]
  by_cases e : i = j
  · rw [if_pos e, if_pos hlen, if_pos e.symm, Option.getD_some]
  · rw [if_neg e, if_neg (Ne.symm e)]

/-- A User-mode register after a write to one of them: each of the four places has its own cell (45 R276). -/
theorem State.usrReg_setUsrReg (s : State) (r : Reg) (v : Word) (q : Reg) :
    (s.setUsrReg r v).usrReg q = if q = r then v else s.usrReg q := by
  unfold State.setUsrReg
  split
  · next h =>
    have hcell : r.toNat - 8 < 5 := by bv_omega
    have hinj : 8 ≤ q → q.toNat - 8 = r.toNat - 8 → q = r := by bv_omega
    simp only [State.usrReg, getD_setIfInBounds _ hcell]
    by_cases hq : q = r
    · rw [if_pos hq, if_pos (hq ▸ h), if_pos (congrArg (·.toNat - 8) hq)]
    · grind [State.reg]
  · split
    · simp only [State.usrReg]
      grind [State.reg]
    · split
      · simp only [State.usrReg]
        grind [State.reg]
      · simp only [State.usrReg, State.setReg_cpsr, State.setReg_banks, State.reg_setReg]
        grind

theorem regAccess_user : RegAccess State.usrReg State.setUsrReg where
  get_put := State.usrReg_setUsrReg
  load32_put s r v a := by
    obtain ⟨-, hi, c, h⟩ | ⟨-, h⟩ := s.setUsrReg_banked r v <;>
      exact h ▸ State.load32_congr a rfl rfl rfl rfl rfl

/-! ## What the loads leave alone -/

/-- All that a load of the user bank leaves alone, registers aside that the list has. -/
structure UserLoadKept (st t : State) : Prop where
  pc : PcKept st t
  spLr : st.cpsr.mode.bank ≠ .usr → t.reg 13 = st.reg 13 ∧ t.reg 14 = st.reg 14
  liveHi : st.cpsr.mode.bank = .fiq → t.liveHi = st.liveHi
  otherSpLr : ∀ b, b ≠ .usr → t.banks.spLr b = st.banks.spLr b
  fiqHi : t.banks.fiqHi = st.banks.fiqHi
  spsrCells : ∀ b, t.banks.spsr b = st.banks.spsr b
  spsr : t.spsr = st.spsr
  cpsr : t.cpsr = st.cpsr
  dev : t.dev = st.dev
  nodeStores : t.nodeStores = st.nodeStores
  hostCalls : t.hostCalls = st.hostCalls
  draws : t.draws = st.draws
  params : t.params = st.params
  mem : t.mem = st.mem

theorem UserLoadKept.refl (st : State) : UserLoadKept st st :=
  ⟨⟨rfl, rfl⟩, fun _ => ⟨rfl, rfl⟩, fun _ => rfl, fun _ _ => rfl, rfl, fun _ => rfl, rfl, rfl, rfl, rfl, rfl, rfl,
    rfl, rfl⟩

theorem UserLoadKept.setUsrReg {st s : State} (h : UserLoadKept st s) {r : Reg} (hr : r ≠ 15) (v : Word) :
    UserLoadKept st (s.setUsrReg r v) := by
  obtain ⟨-, hi, c, he⟩ | ⟨hn, he⟩ := s.setUsrReg_banked r v <;> rw [he]
  · exact { h with
      otherSpLr := fun b hb => by
        rw [← h.otherSpLr b hb]
        cases b with
        | usr => exact absurd rfl hb
        | fiq | irq | svc | abt | und => rfl
      spsrCells := fun b => by
        rw [← h.spsrCells b]
        cases b <;> rfl }
  · have hkept : ∀ q, st.Banked q → (s.setReg r v).reg q = s.reg q := fun q hq =>
      State.reg_setReg_ne _ _ fun e => hn (by rw [State.Banked, h.cpsr]; exact e ▸ hq)
    have hhi : st.cpsr.mode.bank = .fiq → ∀ q : Reg, 8 ≤ q → q ≤ 12 → (s.setReg r v).reg q = s.reg q :=
      fun hf q h8 h12 => hkept q (.inl ⟨h8, h12, hf⟩)
    exact { h with
      pc := ⟨(State.reg_setReg_ne _ _ hr.symm).trans h.pc.1, h.pc.2⟩
      spLr := fun hb => ⟨(hkept 13 (.inr ⟨.inl rfl, hb⟩)).trans (h.spLr hb).1,
        (hkept 14 (.inr ⟨.inr rfl, hb⟩)).trans (h.spLr hb).2⟩
      liveHi := fun hf => by
        rw [← h.liveHi hf]
        simp only [State.liveHi, hhi hf 8 (by decide) (by decide), hhi hf 9 (by decide) (by decide),
          hhi hf 10 (by decide) (by decide), hhi hf 11 (by decide) (by decide), hhi hf 12 (by decide) (by decide)] }

/-- The loads of the user bank write no live register but those of the list (45 R276). -/
theorem State.putUserWords_kept (st : State) {rs : List Reg} (hpc : 15 ∉ rs) (word : Nat → Word) :
    (∀ q, q ∉ rs → (st.putWords State.setUsrReg rs word).reg q = st.reg q) ∧
      UserLoadKept st (st.putWords State.setUsrReg rs word) := by
  refine State.putWords_kept (P := fun t => (∀ q, q ∉ rs → t.reg q = st.reg q) ∧ UserLoadKept st t)
    (fun s r v hr ⟨hreg, hkept⟩ => ⟨fun q hq => ?_, hkept.setUsrReg (ne_of_mem_of_not_mem hr hpc) v⟩) word
    ⟨fun _ _ => rfl, .refl st⟩
  rw [← hreg q hq]
  obtain ⟨-, hi, c, he⟩ | ⟨-, he⟩ := s.setUsrReg_banked r v <;> rw [he]
  · rfl
  · exact State.reg_setReg_ne _ _ (ne_of_mem_of_not_mem hr hq).symm

/-- A User-mode register is the bank cell where the current mode has its own register, else the live one (45 R276). -/
theorem State.usrReg_eq (st : State) (i : Reg) :
    st.usrReg i =
      (if st.cpsr.mode = .fiq ∧ 8 ≤ i.toNat ∧ i.toNat ≤ 12 then st.banks.usrHi.toList.getD (i.toNat - 8) 0
        else if i = 13 ∧ st.cpsr.mode ≠ .user ∧ st.cpsr.mode ≠ .system then st.banks.usr.r13
        else if i = 14 ∧ st.cpsr.mode ≠ .user ∧ st.cpsr.mode ≠ .system then st.banks.usr.r14
        else st.reg i) := by
  have hhi : (8 ≤ i ∧ i ≤ 12 ∧ st.cpsr.mode.bank = .fiq) ↔ st.cpsr.mode = .fiq ∧ 8 ≤ i.toNat ∧ i.toNat ≤ 12 := by
    rw [Mode.bank_eq_fiq, ← and_assoc, and_comm]
    rfl
  simp only [State.usrReg, hhi, Mode.bank_ne_usr_iff]

/-- LDM of the user bank from memory (45 R276). -/
theorem State.loadUser_readable {st : State} {p u : Bool} {rn : Reg} {list : BitVec 16}
    {start : Word} (hs : start = blockStart p u (st.reg rn) list)
    (hr : SlotsReadable st.params start (listCount list)) :
    ∃ t, st.loadUser p u rn list = .next t ∧ BlockLoaded (regList list) start (listCount list) st t.usrReg ∧
      RegsKeptBut (regList list) st t ∧ UserLoadKept st t := by
  have hnext : st.loadUser p u rn list = .next (st.putWords State.setUsrReg (belowPc list) (slotWord st start)) := by
    rw [State.loadUser, State.ldmLoads, ← hs, regAccess_user.loadBlock_readable hr]
    rfl
  obtain ⟨hregs, hkept⟩ := st.putUserWords_kept (pc_not_mem_belowPc list) (slotWord st start)
  exact ⟨_, hnext, regAccess_user.blockLoaded st list start,
    fun q _ hq => hregs q fun h => hq (belowPc_subset list h), hkept⟩

end Sys2Proof.Machine
end

section
/-! PROOF. The stores of a block transfer, and STM, the narrow STMIA and PUSH to storage (45 R274, R275, 48 R390, R393):
the words are stored in order at their places, so that where two places are one the later word stays. -/

namespace Sys2Proof.Machine

/-! ## Words at their places -/

/-- A place is a word of storage (20_memory R88). -/
theorem cellOf_slot_mod (p : Params) (start : Word) (k : Nat) : cellOf p (slot start k) % 4 = 0 := by
  cases ht : target p (slot start k) with
  | node bank off r =>
    have hslot : (slot start k).toNat % 4 = 0 := by
      rw [slot, align4_toNat]
      omega
    rw [cellOf_node ht, cellIn_mod, target_node_off ht]
    omega
  | absent => simp [cellOf, ht]
  | block b off => simp [cellOf, ht]

theorem Memory.read32_congr {m m' : List Host.Cell} {c : Nat}
    (h : ∀ a, c ≤ a → a < c + 4 → Memory.read m' a = Memory.read m a) : Memory.read32 m' c = Memory.read32 m c := by
  simp only [Memory.read32, h c (by omega) (by omega), h (c + 1) (by omega) (by omega),
    h (c + 2) (by omega) (by omega), h (c + 3) (by omega) (by omega)]

theorem BlockStored.nil (vs : List Word) (start : Word) (s : State) : BlockStored vs start 0 s s :=
  ⟨fun _ _ hk => absurd hk (Nat.not_lt_zero _), fun _ _ => rfl⟩

/-- A word stored at the first place and then the others at theirs (45 R274). -/
theorem BlockStored.cons {s t : State} {m : List Host.Cell} {v : Word} {vs : List Word} {start : Word} {n : Nat}
    (hm : ∀ c, c < cellOf s.params (slot start 0) ∨ cellOf s.params (slot start 0) + 4 ≤ c →
      Memory.read m c = Memory.read s.mem c)
    (hv : Memory.read32 m (cellOf s.params (slot start 0)) = v) (hp : t.params = s.params)
    (h : BlockStored vs (start + 4) n { s with mem := m } t) : BlockStored (v :: vs) start (n + 1) s t := by
  obtain ⟨hplaces, hother⟩ := h
  simp only [← slot_succ] at hplaces hother
  refine ⟨fun k x hk hx hlast => ?_, fun c hc => ?_⟩
  · cases k with
    | zero =>
      cases hx
      rw [slotWord, hp, ← hv]
      refine Memory.read32_congr fun a hlo hhi => hother a fun j hj => ?_
      have hne := hlast (j + 1) (by omega) (by omega)
      have hmod := cellOf_slot_mod s.params start (j + 1)
      have hmod0 := cellOf_slot_mod s.params start 0
      omega
    | succ k =>
      have hword := hplaces k x (by omega) hx fun j hkj hj => hlast (j + 1) (by omega) (by omega)
      rw [slotWord, ← slot_succ] at hword
      exact hword
  · rw [hother c fun k hk => hc (k + 1) (by omega)]
    exact hm c (hc 0 (by omega))

/-- The words after the places in question do not count. -/
theorem BlockStored.of_take {vs : List Word} {start : Word} {n : Nat} {s t : State}
    (h : BlockStored (vs.take n) start n s t) : BlockStored vs start n s t := by
  obtain ⟨hplaces, hother⟩ := h
  exact ⟨fun k v hk hv => hplaces k v hk (by rwa [List.getElem?_take_of_lt hk]), hother⟩

/-! ## The stores -/

/-- Stores to storage, and then the stores of the rest (45 R274). -/
theorem State.storeBlock_append {s : State} (hm : Memory.wf s.mem = true) {vs : List Word} (vs' : List Word)
    {start : Word} (hw : SlotsWritable s.params start vs.length) :
    ∃ m, BlockStored vs start vs.length s { s with mem := m } ∧
      State.storeBlock (vs ++ vs') start s =
        State.storeBlock vs' (start + BitVec.ofNat 32 (4 * vs.length)) { s with mem := m } := by
  induction vs generalizing start s with
  | nil => exact ⟨s.mem, .nil [] start s, congrArg (State.storeBlock vs' · s) (BitVec.add_zero start).symm⟩
  | cons v vs ih =>
    obtain ⟨bank, off, r, ht, -, hr⟩ := hw 0 (Nat.zero_lt_succ _)
    have hstore := State.store32_cells v ht hr
    rw [slot_zero, ← cellOf_node ht] at hstore
    have hrest : SlotsWritable s.params (start + 4) vs.length := fun k hk =>
      slot_succ start k ▸ hw (k + 1) (Nat.succ_lt_succ hk)
    obtain ⟨m, hstored, happend⟩ :=
      ih (s := { s with mem := Memory.write32 s.mem (cellOf s.params (slot start 0)) v }) (Memory.wf_write32 hm _ v)
        hrest
    refine ⟨m, hstored.cons (fun c hc => Memory.read_write32_outside hm v hc) (Memory.read32_write32 hm _ v) rfl, ?_⟩
    rw [List.cons_append, State.storeBlock, hstore]
    exact happend.trans (congrArg (State.storeBlock vs' · _) (add_four_add start vs.length))

theorem State.storeBlock_inMemory {s : State} (hm : Memory.wf s.mem = true) {vs : List Word} {start : Word}
    (hw : SlotsWritable s.params start vs.length) :
    ∃ m, State.storeBlock vs start s = .done { s with mem := m } 0 ∧
      BlockStored vs start vs.length s { s with mem := m } := by
  obtain ⟨m, hstored, happend⟩ := State.storeBlock_append hm [] hw
  rw [List.append_nil] at happend
  exact ⟨m, happend, hstored⟩

/-- What a store answers does not depend on the storage (20_memory R84). -/
theorem State.store32_none_mem {s : State} {a v : Word} (h : s.store32 a v = none) (m : List Host.Cell) :
    ({ s with mem := m } : State).store32 a v = none := by
  unfold State.store32 at h ⊢
  cases ht : target s.params a with
  | absent => simp [ht] at h
  | block b off => simp [ht] at h
  | node bank off r =>
    simp only [ht, State.storeBy] at h ⊢
    cases hr : r.store with
    | cells | ignored => simp [hr] at h
    | fails => rfl
    | free => simpa [hr] using h

/-- The stores up to the first one that fails (45 R279). -/
theorem State.storeBlock_fails {s : State} (hm : Memory.wf s.mem = true) {vs : List Word} {start v : Word} {k0 : Nat}
    (hw : SlotsWritable s.params start k0) (hv : vs[k0]? = some v) (hfail : s.store32 (slot start k0) v = none) :
    ∃ m, State.storeBlock vs start s = .aborted { s with mem := m } ∧
      BlockStored vs start k0 s { s with mem := m } := by
  obtain ⟨hk, hget⟩ := List.getElem?_eq_some_iff.1 hv
  have hlen : (vs.take k0).length = k0 := List.length_take_of_le (Nat.le_of_lt hk)
  obtain ⟨m, hstored, happend⟩ := State.storeBlock_append hm (vs.drop k0) (vs := vs.take k0) (by rwa [hlen])
  rw [hlen] at hstored happend
  have hlate : State.store32 { s with mem := m } (align4 (start + BitVec.ofNat 32 (4 * k0))) v = none :=
    State.store32_none_mem hfail m
  rw [List.take_append_drop, List.drop_eq_getElem_cons hk, hget, State.storeBlock, hlate] at happend
  exact ⟨m, happend, hstored.of_take⟩

/-! ## The stored words -/

theorem length_storedWords (st : State) (read : Reg → Word) (u w : Bool) (rn : Reg) (list : BitVec 16) :
    (storedWords st read u w rn list).length = listCount list := List.length_map _

/-- The words of STM as the claims put them: the base counts as written back where it is in the list (45 R275). -/
theorem map_storedWord (st : State) (read : Reg → Word) (u w : Bool) (rn : Reg) (list : BitVec 16) :
    (regList list).map (st.storedWord read u w rn list) = storedWords st read u w rn list := by
  refine List.map_congr_left fun r hr => ?_
  have hcond : (w && r == rn && baseNotLowest rn list) = true ↔ w = true ∧ r = rn ∧ (regList list).head? ≠ some rn := by
    simp only [baseNotLowest, Bool.and_eq_true, beq_iff_eq, bne_iff_ne, and_assoc]
    exact ⟨fun ⟨hw, he, _, hh⟩ => ⟨hw, he, hh⟩, fun ⟨hw, he, hh⟩ => ⟨hw, he, he ▸ mem_regList.1 hr, hh⟩⟩
  simp only [State.storedWord, hcond]

/-- A list without r15 and without the base stores its registers as they are (48 R390). -/
theorem storedWords_plain (st : State) (read : Reg → Word) (u w : Bool) {rn : Reg} {list : BitVec 16}
    (h15 : list.getLsbD 15 = false) (hrn : list.getLsbD rn.toNat = false) :
    storedWords st read u w rn list = (regList list).map read := by
  refine List.map_congr_left fun r hr => ?_
  have hne : ∀ q : Reg, list.getLsbD q.toNat = false → r ≠ q := fun q hq e => by
    rw [← e, mem_regList.1 hr] at hq
    cases hq
  rw [if_neg (hne 15 h15), if_neg fun h => hne rn hrn h.2.1]

/-! ## STM, STMIA and PUSH -/

/-- STM to storage: the stores and then the base (45 R274, R275). -/
theorem State.storeMultiple_inMemory {st : State} {p u : Bool} (w : Bool) {rn : Reg} (hrn : rn ≠ 15) {list : BitVec 16}
    {start : Word} (hm : Memory.wf st.mem = true) (hs : start = blockStart p u (st.reg rn) list)
    (hw : SlotsWritable st.params start (listCount list)) :
    ∃ t, st.storeMultiple p u w rn list = .next t ∧
      BlockStored (storedWords st st.reg u w rn list) start (listCount list) st t ∧
      (w = true → t.reg rn = blockFinal u (st.reg rn) list) ∧
      RegsKeptBut (if w then [rn] else []) st t ∧ PcKept st t ∧ t.cpsr = st.cpsr ∧ SystemKept st t := by
  rw [← length_storedWords st st.reg u w rn] at hw
  obtain ⟨m, hdone, hstored⟩ := State.storeBlock_inMemory hm hw
  rw [length_storedWords] at hstored
  rw [State.storeMultiple, State.stmStores, map_storedWord, ← hs, hdone]
  cases w with
  | false => exact ⟨_, rfl, hstored, nofun, fun _ _ _ => rfl, ⟨rfl, rfl⟩, rfl, ⟨rfl, rfl, rfl, rfl, rfl, rfl, rfl⟩⟩
  | true =>
    obtain ⟨hregs, hpc, hsystem, -⟩ := State.setReg_kept { st with mem := m } hrn (blockFinal u (st.reg rn) list)
    exact ⟨_, rfl, hstored, fun _ => State.reg_setReg_self .., hregs, hpc, rfl, hsystem⟩

/-- Settles O30: STMIA is STM, incrementing after, and PUSH is STM, decrementing before, both with write-back. -/
theorem storeMultipleResult : Obligations.StoreMultipleResult := by
  refine ⟨fun c p u w rn rlist st start hm hc hwf hs hw => ?_, fun rb rlist st hm hne hw => ?_,
    fun r rlist list st start hm hne hlist hs hw => ?_⟩
  · rw [exec_stm hc hwf]
    exact State.storeMultiple_inMemory w (base_ne_pc_of_checkBlock (unpredictable_of_wf hwf)) hm hs hw
  · rw [exec_tStmia (checkNarrowBlock_none hne)]
    obtain ⟨t, ht, hstored, hbase, hkept⟩ :=
      State.storeMultiple_inMemory (p := false) (u := true) true (low_ne_pc rb) hm rfl hw
    exact ⟨t, ht, hstored, hbase rfl, hkept⟩
  · rw [← pushList_eq] at hlist
    subst hlist
    rw [exec_tPush (checkStack_none hne)]
    obtain ⟨t, ht, hstored, hbase, hkept⟩ :=
      State.storeMultiple_inMemory (p := true) (u := false) true (by decide) hm hs hw
    obtain ⟨h15, h13⟩ := getLsbD_pushList r rlist
    rw [storedWords_plain (rn := 13) st st.reg false true h15 h13] at hstored
    exact ⟨t, ht, hstored, (hbase rfl).trans hs.symm, hkept⟩

end Sys2Proof.Machine
end

section
/-! PROOF. The user-bank forms of LDM and STM (45 R276). -/

namespace Sys2Proof.Machine

/-- STM of the user bank to storage (45 R276). -/
theorem State.storeUser_inMemory {st : State} {p u : Bool} {rn : Reg} {list : BitVec 16} {start : Word}
    (hm : Memory.wf st.mem = true) (hs : start = blockStart p u (st.reg rn) list)
    (hw : SlotsWritable st.params start (listCount list)) :
    ∃ t, st.storeUser p u rn list = .next t ∧
      BlockStored (storedWords st st.usrReg u false rn list) start (listCount list) st t ∧
      RegsKeptBut [] st t ∧ PcKept st t ∧ t.cpsr = st.cpsr ∧ SystemKept st t := by
  rw [← length_storedWords st st.usrReg u false rn] at hw
  obtain ⟨m, hdone, hstored⟩ := State.storeBlock_inMemory hm hw
  rw [length_storedWords] at hstored
  rw [State.storeUser, State.stmStores, map_storedWord, ← hs, hdone]
  exact ⟨_, rfl, hstored, fun _ _ _ => rfl, ⟨rfl, rfl⟩, rfl, ⟨rfl, rfl, rfl, rfl, rfl, rfl, rfl⟩⟩

/-- Settles O31: the user-bank forms are the loads and stores of a block through the User-mode registers. -/
theorem userBankTransfers : Obligations.UserBankTransfers := by
  refine ⟨fun c p u w rn rlist list st start hc hwf hlist hs hr => ?_,
    fun c p u w rn rlist st start hm hc hwf hs hw => ?_, State.usrReg_eq⟩
  · rw [exec_ldmUser hc hwf, ← hlist]
    obtain ⟨t, ht, hloaded, hregs, h⟩ := State.loadUser_readable hs hr
    exact ⟨t, ht, hloaded, hregs, h.pc, h.spLr, h.liveHi, h.otherSpLr, h.fiqHi, h.spsrCells, h.spsr, h.cpsr, h.dev,
      h.nodeStores, h.hostCalls, h.draws, h.params, fun a => congrArg (Memory.read · a) h.mem⟩
  · rw [exec_stmUser hc hwf]
    exact State.storeUser_inMemory hm hs hw

end Sys2Proof.Machine
end

section
/-! PROOF. A block transfer that a failing bus call cuts short (45 R279, 48 R392, 60 R431): every form is the loads or
the stores of a block with an ending of its own, which a Data Abort replaces. -/

namespace Sys2Proof.Machine

/-! ## The endings -/

/-- An outcome that is the block `b` with some ending: where `b` is cut short it is the Data Abort entry. -/
def EndsBlock (b : Block) (o : Outcome) : Prop := ∃ k, o = b.finish k

theorem EndsBlock.aborted {b : Block} {o : Outcome} (h : EndsBlock b o) {q : State} (hb : b = .aborted q) :
    o = .next (q.enter .dataAbort) := by
  obtain ⟨k, rfl⟩ := h
  rw [hb]
  rfl

theorem State.loadReturn_endsBlock {st : State} (hm : st.cpsr.mode.hasSpsr = true) (p u w : Bool) (rn : Reg)
    (list : BitVec 16) :
    EndsBlock (State.loadBlock State.setReg (regList list) (blockStart p u (st.reg rn) list) 0 st)
      (st.loadReturn p u w rn list) := ⟨_, if_pos hm⟩

theorem State.storeMultiple_endsBlock (st : State) (p u w : Bool) (rn : Reg) (list : BitVec 16) :
    EndsBlock (State.storeBlock (storedWords st st.reg u w rn list) (blockStart p u (st.reg rn) list) st)
      (st.storeMultiple p u w rn list) := by
  rw [← map_storedWord]
  exact ⟨_, rfl⟩

theorem State.storeUser_endsBlock (st : State) (p u : Bool) (rn : Reg) (list : BitVec 16) :
    EndsBlock (State.storeBlock (storedWords st st.usrReg u false rn list) (blockStart p u (st.reg rn) list) st)
      (st.storeUser p u rn list) := by
  rw [← map_storedWord]
  exact ⟨_, rfl⟩

/-- Settles O34: what was loaded or stored before the failing call stands, and the ending does not run. -/
theorem blockTransferAborts : Obligations.BlockTransferAborts := by
  refine ⟨fun i c p u w r rn rb rl rl15 rl8 st list start k0 hc hwf hi hk hbefore hfail => ?_,
    fun c p u w rn rl15 list st start k0 hc hwf hlist hs hk hbefore hfail => ?_,
    fun i c p u w r rn rb rl rl8 st list start vs v k0 hm hc hwf hi hw hv hfail => ?_⟩
  · have hform : EndsBlock (State.loadBlock State.setReg (regList list) start 0 st) (exec i st) := by
      obtain ⟨rfl, rfl, rfl⟩ | ⟨rfl, hspsr, rfl, rfl⟩ | ⟨rfl, rfl, rfl⟩ | ⟨rfl, rfl, rfl⟩ := hi
      · exact ⟨_, exec_ldm hc hwf⟩
      · rw [exec_ldmCpsr hc hwf]
        exact State.loadReturn_endsBlock hspsr p u w rn _
      · exact ⟨_, exec_tLdmia (unpredictable_of_wf hwf)⟩
      · exact ⟨_, exec_tPop (unpredictable_of_wf hwf)⟩
    obtain ⟨hloaded, hother⟩ := regAccess_live.get_loadedBefore (list := list) hbefore
    obtain ⟨-, hcpsr, hsystem, hmem⟩ := LoadKept.putWords (st := st) (pc_not_mem_take hk)
      fun k => (st.load32 (slot start k)).getD 0
    exact ⟨_, hform.aborted (regAccess_live.loadBlock_fails hk hbefore hfail), hloaded, hother, hcpsr, hsystem, hmem⟩
  · subst hlist hs
    have hform : EndsBlock (State.loadBlock State.setUsrReg (regList _) _ 0 st) _ := ⟨_, exec_ldmUser hc hwf⟩
    obtain ⟨hloaded, hother⟩ := regAccess_user.get_loadedBefore (list := 0#1 ++ rl15) hbefore
    obtain ⟨hregs, h⟩ := st.putUserWords_kept (pc_not_mem_take hk)
      fun k => (st.load32 (slot (blockStart p u (st.reg rn) (0#1 ++ rl15)) k)).getD 0
    exact ⟨_, hform.aborted (regAccess_user.loadBlock_fails hk hbefore hfail), hloaded,
      fun x hx => ⟨hother x hx, hregs x hx⟩, h.spLr, h.liveHi, h.otherSpLr, h.fiqHi, h.spsrCells, h.spsr, h.cpsr, h.dev,
      h.mem, h.nodeStores⟩
  · have hform : EndsBlock (State.storeBlock vs start st) (exec i st) := by
      obtain ⟨rfl, rfl, rfl, rfl⟩ | ⟨rfl, rfl, rfl, rfl⟩ | ⟨rfl, rfl, rfl, rfl⟩ | ⟨rfl, hlist, rfl, rfl⟩ := hi
      · rw [exec_stm hc hwf]
        exact st.storeMultiple_endsBlock p u w rn _
      · rw [exec_stmUser hc hwf]
        exact st.storeUser_endsBlock p u rn _
      · rw [exec_tStmia (unpredictable_of_wf hwf)]
        exact st.storeMultiple_endsBlock false true true (low rb) _
      · rw [← pushList_eq] at hlist
        subst hlist
        obtain ⟨h15, h13⟩ := getLsbD_pushList r rl8
        rw [exec_tPush (unpredictable_of_wf hwf), ← storedWords_plain (rn := 13) st st.reg false true h15 h13]
        exact st.storeMultiple_endsBlock true false true 13 _
    obtain ⟨m, hb, hstored⟩ := State.storeBlock_fails hm hw hv hfail
    exact ⟨_, hform.aborted hb, hstored, fun _ => rfl, rfl, rfl, rfl, rfl, rfl, rfl, rfl, rfl⟩

end Sys2Proof.Machine
end

section
/-! PROOF. SWP and SWPB in storage (45 R284, R285): the load and the store of one kind at one address, and then Rd. -/

namespace Sys2Proof.Machine

section
variable {c : Cond} {rn rd rm : Reg} {st : State}

theorem exec_swp (hc : Cond.holds c st.cpsr = true) (hwf : (Instr.swp c rn rd rm).wf = true) :
    exec (.swp c rn rd rm) st = st.swap rd (st.loadAs .word (st.reg rn)) (st.storeAs 4 (st.reg rn) (st.reg rm)) :=
  State.passed_guarded hc hwf _

theorem exec_swpb (hc : Cond.holds c st.cpsr = true) (hwf : (Instr.swpb c rn rd rm).wf = true) :
    exec (.swpb c rn rd rm) st = st.swap rd (st.loadAs .byte (st.reg rn)) (st.storeAs 1 (st.reg rn) (st.reg rm)) :=
  State.passed_guarded hc hwf _

end

theorem rd_ne_pc_of_checkSwap {rn rd rm : Reg} (h : checkSwap rn rd rm = none) : rd ≠ 15 := by
  obtain ⟨hpc, -⟩ := firstOf_cons_none.1 h
  simp only [Bool.or_eq_false_iff, beq_eq_false_iff_ne] at hpc
  exact hpc.1.2

theorem InMemory.readable {p : Params} {a : Word} (h : InMemory p a) : Readable p a := by
  obtain ⟨bank, off, r, ht, hl, -⟩ := h
  exact ⟨bank, off, r, ht, hl⟩

theorem State.swap_inMemory {st : State} {k : LoadKind} {n : Nat} {ea : Word} (hn : n = 4 ∨ n = 2 ∨ n = 1)
    (hk : k.busAddress ea = storeAddress n ea) {rd : Reg} (hrd : rd ≠ 15) (hm : Memory.wf st.mem = true)
    (h : InMemory st.params (storeAddress n ea)) (v : Word) :
    ∃ t, st.swap rd (st.loadAs k ea) (st.storeAs n ea v) = .next t ∧ LoadsAs k st ea (t.reg rd) ∧
      Stored (cellOf st.params (storeAddress n ea)) n v st t ∧ RegsKeptBut [rd] st t ∧ PcKept st t ∧
      t.cpsr = st.cpsr ∧ SystemKept st t := by
  obtain ⟨x, hx, hloads⟩ := State.loadAs_readable (s := st) (k := k) (hk ▸ h.readable)
  obtain ⟨m, hstore, hstored⟩ := State.storeAs_inMemory hn hm h v
  obtain ⟨hregs, hpc, hsystem, -⟩ := State.setReg_kept { st with mem := m } hrd x
  rw [hx, hstore]
  refine ⟨_, rfl, ?_, hstored, hregs, hpc, rfl, hsystem⟩
  rw [State.reg_setReg_self]
  exact hloads

/-- Settles O35: Rd gets what the load of the kind gives, and storage the stored bytes. -/
theorem swapResult : Obligations.SwapResult := by
  refine fun c rn rd rm st hc hm => ⟨fun hwf h => ?_, fun hwf h => ?_⟩
  · rw [exec_swp hc hwf]
    exact State.swap_inMemory (.inl rfl) rfl (rd_ne_pc_of_checkSwap (unpredictable_of_wf hwf)) hm h _
  · rw [exec_swpb hc hwf]
    exact State.swap_inMemory (.inr (.inr rfl)) rfl (rd_ne_pc_of_checkSwap (unpredictable_of_wf hwf)) hm h _

end Sys2Proof.Machine
end

section
/-! PROOF. MRS (46 R290): a status word read bit by bit, and written to Rd alone. -/

namespace Sys2Proof.Machine

/-- The field of a status word that bit `k` is in, and the place of the bit there (10_state R36, R38). -/
theorem Saved.getLsbD_toWord (q : Saved) (k : Nat) :
    q.toWord.getLsbD k =
      if k < 5 then q.m.getLsbD k
      else if k < 6 then (BitVec.ofBool q.t).getLsbD (k - 5)
      else if k < 7 then (BitVec.ofBool q.f).getLsbD (k - 6)
      else if k < 8 then (BitVec.ofBool q.i).getLsbD (k - 7)
      else if k < 28 then false
      else if k < 29 then (BitVec.ofBool q.v).getLsbD (k - 28)
      else if k < 30 then (BitVec.ofBool q.c).getLsbD (k - 29)
      else if k < 31 then (BitVec.ofBool q.z).getLsbD (k - 30)
      else (BitVec.ofBool q.n).getLsbD (k - 31) := by
  have hlt (a b : Nat) (hb : 0 < b) : k - a < b ↔ k < a + b := by omega
  rw [Saved.toWord, BitVec.getLsbD_append (n := 27) (m := 5), BitVec.getLsbD_append (n := 26) (m := 1),
    BitVec.getLsbD_append (n := 25) (m := 1), BitVec.getLsbD_append (n := 24) (m := 1),
    BitVec.getLsbD_append (n := 4) (m := 20), BitVec.getLsbD_append (n := 3) (m := 1),
    BitVec.getLsbD_append (n := 2) (m := 1), BitVec.getLsbD_append (n := 1) (m := 1)]
  simp (disch := decide) only [Nat.sub_sub, Nat.reduceAdd, hlt, BitVec.getLsbD_zero]

/-- A status word bit by bit (10_state R36); bits 27:8 are zero (R38). -/
theorem Saved.toWord_bits (q : Saved) :
    q.toWord.getLsbD 31 = q.n ∧ q.toWord.getLsbD 30 = q.z ∧ q.toWord.getLsbD 29 = q.c ∧ q.toWord.getLsbD 28 = q.v ∧
      (∀ k, 8 ≤ k → k ≤ 27 → q.toWord.getLsbD k = false) ∧
      q.toWord.getLsbD 7 = q.i ∧ q.toWord.getLsbD 6 = q.f ∧ q.toWord.getLsbD 5 = q.t ∧
      q.toWord.extractLsb' 0 5 = q.m := by
  have hreserved (k : Nat) (h8 : 8 ≤ k) (h27 : k ≤ 27) : q.toWord.getLsbD k = false := by
    rw [q.getLsbD_toWord, if_neg (by omega), if_neg (by omega), if_neg (by omega), if_neg (by omega),
      if_pos (by omega)]
  obtain ⟨hi, hf, hm⟩ := q.toWord_control
  have hbit (b : Bool) : (BitVec.ofBool b).getLsbD 0 = b := by cases b <;> rfl
  exact ⟨(q.getLsbD_toWord 31).trans (hbit _), (q.getLsbD_toWord 30).trans (hbit _),
    (q.getLsbD_toWord 29).trans (hbit _), (q.getLsbD_toWord 28).trans (hbit _), hreserved, hi, hf,
    (q.getLsbD_toWord 5).trans (hbit _), hm⟩

theorem checkMrs_none {rd : Reg} (h : rd ≠ 15) : checkMrs rd = none :=
  firstOf_cons_none.2 ⟨beq_eq_false_iff_ne.2 h, rfl⟩

/-- MRS from CPSR (46 R290). -/
theorem exec_mrsCpsr {c : Cond} {st : State} (hc : Cond.holds c st.cpsr = true) (rd : Reg) :
    exec (.mrsCpsr c rd) st = guarded (checkMrs rd) (.next (st.setReg rd st.cpsr.toSaved.toWord)) :=
  State.ifPassed_pos hc _

/-- MRS from SPSR (46 R290). -/
theorem exec_mrsSpsr {c : Cond} {st : State} (hc : Cond.holds c st.cpsr = true) (rd : Reg) :
    exec (.mrsSpsr c rd) st = guarded (checkMrs rd) (st.readSpsr rd) :=
  State.ifPassed_pos hc _

theorem State.readSpsr_of_spsr {st : State} (h : st.cpsr.mode.hasSpsr = true) (rd : Reg) :
    st.readSpsr rd = .next (st.setReg rd st.spsr.toWord) := if_pos h

theorem State.readSpsr_noSpsr {st : State} (h : st.cpsr.mode.hasSpsr = false) (rd : Reg) :
    st.readSpsr rd = .refused .noSpsr := if_neg (ne_true_of_eq_false h)

/-- A status word written to a register other than r15 is what is read there, and all else is kept. -/
theorem State.setReg_toWord_bits (st : State) {rd : Reg} (h : rd ≠ 15) (q : Saved) :
    let t := st.setReg rd q.toWord
    (t.reg rd).getLsbD 31 = q.n ∧ (t.reg rd).getLsbD 30 = q.z ∧ (t.reg rd).getLsbD 29 = q.c ∧
      (t.reg rd).getLsbD 28 = q.v ∧ (∀ k, 8 ≤ k → k ≤ 27 → (t.reg rd).getLsbD k = false) ∧
      (t.reg rd).getLsbD 7 = q.i ∧ (t.reg rd).getLsbD 6 = q.f ∧ (t.reg rd).getLsbD 5 = q.t ∧
      (t.reg rd).extractLsb' 0 5 = q.m ∧
      RegsKeptBut [rd] st t ∧ PcKept st t ∧ t.cpsr = st.cpsr ∧ SystemKept st t ∧ MemKept st t := by
  obtain ⟨hn, hz, hc, hv, hreserved, hi, hf, ht, hm⟩ := q.toWord_bits
  obtain ⟨hregs, hpc, hsystem, hmem⟩ := st.setReg_kept h q.toWord
  have hrd : (st.setReg rd q.toWord).reg rd = q.toWord := State.reg_setReg_self ..
  simp only [hrd]
  exact ⟨hn, hz, hc, hv, hreserved, hi, hf, ht, hm, hregs, hpc, rfl, hsystem, hmem⟩

/-- Settles O37: both forms write the word of a status to Rd; r15 is refused before the SPSR is asked for. -/
theorem statusReadResult : Obligations.StatusReadResult := by
  intro c rd st hc hrd
  rw [exec_mrsCpsr hc, exec_mrsSpsr hc, guarded_none (checkMrs_none hrd), guarded_none (checkMrs_none hrd)]
  refine ⟨⟨_, rfl, st.setReg_toWord_bits hrd st.cpsr.toSaved⟩,
    fun h => ⟨_, State.readSpsr_of_spsr h rd, st.setReg_toWord_bits hrd st.spsr⟩,
    fun h => State.readSpsr_noSpsr h rd, ?_, ?_⟩
  · exact exec_mrsCpsr hc 15
  · exact exec_mrsSpsr hc 15

end Sys2Proof.Machine
end

section
/-! PROOF. MSR (46 R291 to R293): which fields of a status word a mask selects, and what CPSR and SPSR make of the
merged word. -/

namespace Sys2Proof.Machine

/-! ## The mask (46 R291) -/

/-- The mask of the flags, of the control byte, of both or of neither. -/
def statusMask (flags control : Bool) : Word :=
  (if flags then 0xF0000000 else 0) ||| (if control then 0x000000FF else 0)

theorem fieldMask_eq (fmask : BitVec 4) : fieldMask fmask = statusMask (fmask.getLsbD 3) (fmask.getLsbD 0) := rfl

/-- User mode drops the control byte (46 R292). -/
theorem State.cpsrMask_eq (st : State) (fmask : BitVec 4) :
    st.cpsrMask fmask = statusMask (fmask.getLsbD 3) (fmask.getLsbD 0 && st.cpsr.mode != .user) := by
  rw [State.cpsrMask, fieldMask_eq]
  by_cases hu : st.cpsr.mode = .user
  · rw [if_pos hu, hu]
    cases fmask.getLsbD 3 <;> cases fmask.getLsbD 0 <;> rfl
  · rw [if_neg hu, bne_iff_ne.2 hu, Bool.and_true]

theorem statusMask_flag : ∀ flags control : Bool, ∀ k < 32, 28 ≤ k → (statusMask flags control).getLsbD k = flags := by
  decide

theorem statusMask_control : ∀ flags control : Bool, ∀ k < 8, (statusMask flags control).getLsbD k = control := by
  decide

/-! ## The merged word -/

/-- The status `q` with its flags, its control byte, both or neither replaced by those of the word `v`. -/
def Saved.withFields (q : Saved) (flags control : Bool) (v : Word) : Saved :=
  { n := if flags then v.getLsbD 31 else q.n
    z := if flags then v.getLsbD 30 else q.z
    c := if flags then v.getLsbD 29 else q.c
    v := if flags then v.getLsbD 28 else q.v
    i := if control then v.getLsbD 7 else q.i
    f := if control then v.getLsbD 6 else q.f
    t := if control then v.getLsbD 5 else q.t
    m := if control then v.extractLsb' 0 5 else q.m }

/-- A masked write, bit by bit. -/
theorem getLsbD_merged (old mask v : Word) {k : Nat} (hk : k < 32) :
    ((old &&& ~~~mask) ||| (v &&& mask)).getLsbD k = if mask.getLsbD k then v.getLsbD k else old.getLsbD k := by
  rw [BitVec.getLsbD_or, BitVec.getLsbD_and, BitVec.getLsbD_and, BitVec.getLsbD_not]
  cases mask.getLsbD k <;> simp [hk]

theorem mergeStatus_statusMask (q : Saved) (flags control : Bool) (v : Word) :
    mergeStatus q (statusMask flags control) v = q.withFields flags control v := by
  obtain ⟨hn, hz, hc, hv, -, hi, hf, ht, hm⟩ := q.toWord_bits
  have hmode : ((q.toWord &&& ~~~statusMask flags control) ||| (v &&& statusMask flags control)).extractLsb' 0 5 =
      if control then v.extractLsb' 0 5 else q.m := by
    rw [← hm, ← apply_ite (BitVec.extractLsb' 0 5)]
    ext k hk
    rw [BitVec.getElem_extractLsb', BitVec.getElem_extractLsb', Nat.zero_add, getLsbD_merged _ _ _ (by omega),
      statusMask_control _ _ _ (by omega), apply_ite (BitVec.getLsbD · k)]
  simp (disch := decide) only [mergeStatus, Saved.ofWord, Saved.withFields, getLsbD_merged, statusMask_flag,
    statusMask_control, hn, hz, hc, hv, hi, hf, ht, hmode]

/-! ## The register and the immediate form (46 R291) -/

theorem checkMsrReg_none {rm : Reg} (h : rm ≠ 15) : checkMsrReg rm = none :=
  firstOf_cons_none.2 ⟨beq_eq_false_iff_ne.2 h, rfl⟩

section
variable {c : Cond} {fmask : BitVec 4} {i : Instr} {v : Word} {st : State}

/-- Both forms of MSR to CPSR write the value of their operand. -/
theorem exec_msrCpsr (hc : Cond.holds c st.cpsr = true)
    (hi : (∃ rm : Reg, rm ≠ 15 ∧ i = .msrRegCpsr c fmask rm ∧ v = st.reg rm) ∨
      ∃ rot imm8, i = .msrImmCpsr c fmask rot imm8 ∧ v = (BitVec.setWidth 32 imm8).rotateRight (2 * rot.toNat)) :
    exec i st = st.writeCpsr fmask v := by
  obtain ⟨rm, hrm, rfl, rfl⟩ | ⟨rot, imm8, rfl, rfl⟩ := hi
  · exact (State.ifPassed_pos hc _).trans (guarded_none (checkMsrReg_none hrm) _)
  · exact State.ifPassed_pos hc _

/-- Both forms of MSR to SPSR write the value of their operand. -/
theorem exec_msrSpsr (hc : Cond.holds c st.cpsr = true)
    (hi : (∃ rm : Reg, rm ≠ 15 ∧ i = .msrRegSpsr c fmask rm ∧ v = st.reg rm) ∨
      ∃ rot imm8, i = .msrImmSpsr c fmask rot imm8 ∧ v = (BitVec.setWidth 32 imm8).rotateRight (2 * rot.toNat)) :
    exec i st = st.writeSpsr fmask v := by
  obtain ⟨rm, hrm, rfl, rfl⟩ | ⟨rot, imm8, rfl, rfl⟩ := hi
  · exact (State.ifPassed_pos hc _).trans (guarded_none (checkMsrReg_none hrm) _)
  · exact State.ifPassed_pos hc _

end

/-! ## MSR to CPSR (46 R292, R293) -/

section
variable {st : State} {fmask : BitVec 4} {v : Word} {q : Saved}
  (hq : mergeStatus st.cpsr.toSaved (st.cpsrMask fmask) v = q)
include hq

theorem State.writeCpsr_next {p : Status} (ht : q.t = st.cpsr.t) (hp : q.toStatus = some p) :
    st.writeCpsr fmask v = .next (st.loadStatus p) := by
  simp [State.writeCpsr, hq, ht, hp]

theorem State.writeCpsr_width (ht : q.t ≠ st.cpsr.t) :
    st.writeCpsr fmask v = .refused .msrChangesWidth := by
  simp [State.writeCpsr, hq, ht]

theorem State.writeCpsr_mode (ht : q.t = st.cpsr.t) (hp : q.toStatus = none) :
    st.writeCpsr fmask v = .refused .illegalMode := by
  simp [State.writeCpsr, hq, ht, hp]

end

/-- Settles O38: the selected fields replace those of CPSR, and the control byte counts outside User mode alone. -/
theorem statusWriteCpsr : Obligations.StatusWriteCpsr := by
  intro c fmask i v st flags control hc hi hflags hcontrol
  have hq : mergeStatus st.cpsr.toSaved (st.cpsrMask fmask) v = st.cpsr.toSaved.withFields flags control v := by
    rw [State.cpsrMask_eq, ← hflags, ← hcontrol, mergeStatus_statusMask]
  rw [exec_msrCpsr hc hi]
  refine ⟨fun m hm => ?_, ?_, ?_⟩
  · have hfields : (st.cpsr.toSaved.withFields flags control v).t = st.cpsr.t ∧
        Mode.ofBits (st.cpsr.toSaved.withFields flags control v).m = some m := by
      cases control with
      | false => exact ⟨rfl, by rw [hm]; exact Mode.ofBits_bits _⟩
      | true => exact hm.symm
    obtain ⟨ht, hmode⟩ := hfields
    refine State.writeCpsr_next hq ht ?_
    rw [Saved.toStatus, hmode, ht]
    rfl
  · rintro rfl ht
    exact State.writeCpsr_width hq ht
  · rintro rfl ht hm
    exact State.writeCpsr_mode hq ht (Option.map_eq_none_iff.2 hm)

/-! ## MSR to SPSR (46 R292) -/

/-- Settles O39: the selected fields replace those of SPSR, the mode field as it is. -/
theorem statusWriteSpsr : Obligations.StatusWriteSpsr := by
  intro c fmask i v st hc hi
  rw [exec_msrSpsr hc hi, State.writeSpsr, fieldMask_eq, mergeStatus_statusMask]
  exact ⟨fun h => if_pos h, fun h => if_neg (ne_true_of_eq_false h)⟩

end Sys2Proof.Machine
end

section
/-! PROOF. The software interrupts, the undefined format and the coprocessor formats (46 R294, R296 to R301, 48 R406). -/

namespace Sys2Proof.Machine

/-- Settles O40: each wide meaning is the entry under its condition, and the narrow SWI has no condition. -/
theorem trapsTaken : Obligations.TrapsTaken := by
  intro c st hc
  have hpassed (e : Exc) : st.ifPassed c (.next (st.enter e)) = .next (st.enter e) := State.ifPassed_pos hc _
  refine ⟨fun _ => ?swi, fun _ => ?tSwi, fun _ _ => ?und, fun _ _ _ _ _ _ => ?cdp, fun _ _ _ _ _ _ _ _ => ?ldc,
    fun _ _ _ _ _ _ _ _ => ?stc, fun _ _ _ _ _ _ => ?mcr, fun _ _ _ _ _ _ => ?mrc⟩
  case swi => exact hpassed .swi
  case tSwi => rfl
  case und | cdp | ldc | stc | mcr | mrc => exact hpassed .undefined

end Sys2Proof.Machine
end

section
/-! PROOF. Narrow arithmetic (47 R311 to R339): each instruction is one of the sixteen operations of wide data
processing, with Rd and the flags or the flags alone as what it writes. -/

namespace Sys2Proof.Machine

/-! ## The two endings -/

/-- The flags of an operation are those of the tables, whatever was written before them (42 R190, R197). -/
theorem State.setAluFlags_flagged {st t : State} (ht : t.cpsr = st.cpsr) (o : AluOp) (op1 : Word) (op2 : Shifted) :
    DpFlagged o st (t.setAluFlags (o.eval op1 op2 st.cpsr)) op1 op2.value op2.carry := by
  rw [DpFlagged, Flagged, State.setAluFlags_cpsr, ht, AluOp.eval_eq, BitVec.msb_eq_getLsbD_last]

/-- A compare: its flags by the tables, and nothing else (42 R192, 47 R310). -/
theorem State.setAluFlags_eval (st : State) (o : AluOp) (op1 : Word) (op2 : Shifted) :
    DpFlagged o st (st.setAluFlags (o.eval op1 op2 st.cpsr)) op1 op2.value op2.carry ∧
      RegsKeptBut [] st (st.setAluFlags (o.eval op1 op2 st.cpsr)) ∧
      PcKept st (st.setAluFlags (o.eval op1 op2 st.cpsr)) ∧
      SystemKept st (st.setAluFlags (o.eval op1 op2 st.cpsr)) ∧
      MemKept st (st.setAluFlags (o.eval op1 op2 st.cpsr)) := by
  obtain ⟨hregs, hpc, -, hsystem, hmem⟩ := st.setAluFlags_kept (o.eval op1 op2 st.cpsr)
  exact ⟨State.setAluFlags_flagged rfl o op1 op2, hregs, hpc, hsystem, hmem⟩

/-- Writing a low register and the flags leaves everything else alone (47 R310). -/
theorem State.aluLo_kept (st : State) (rd : LoReg) (x : Alu) :
    RegsKeptBut [low rd] st (st.aluLo rd x) ∧ PcKept st (st.aluLo rd x) ∧ SystemKept st (st.aluLo rd x) ∧
      MemKept st (st.aluLo rd x) := st.setReg_kept (low_ne_pc rd) x.result

/-- An operation that writes Rd: its result and flags by the tables, and nothing else (47 R310). -/
theorem State.aluLo_eval (st : State) (rd : LoReg) (o : AluOp) (op1 : Word) (op2 : Shifted) :
    (st.aluLo rd (o.eval op1 op2 st.cpsr)).reg (low rd) = dpResult o op1 op2.value st.cpsr.c ∧
      DpFlagged o st (st.aluLo rd (o.eval op1 op2 st.cpsr)) op1 op2.value op2.carry := by
  refine ⟨?_, State.setAluFlags_flagged rfl o op1 op2⟩
  rw [State.aluLo, State.reg_setAluFlags, State.reg_setReg_self, AluOp.eval_eq]

/-! ## Formats T1, T2 and T3 -/

/-- The shifts by an immediate are MOV of a shifted register. -/
theorem exec_tShiftImm {sh : Shift} {i : Instr} {imm5 : BitVec 5} {rs rd : LoReg}
    (h : (sh, i) ∈ [(Shift.lsl, Instr.tLslImm imm5 rs rd), (.lsr, .tLsrImm imm5 rs rd), (.asr, .tAsrImm imm5 rs rd)])
    (st : State) :
    exec i st =
      .next (st.aluLo rd (AluOp.mov.eval 0 (shiftImm sh imm5 (st.reg (low rs)) st.cpsr.c) st.cpsr)) := by
  simp only [List.mem_cons, Prod.mk.injEq, List.not_mem_nil, or_false] at h
  obtain ⟨rfl, rfl⟩ | ⟨rfl, rfl⟩ | ⟨rfl, rfl⟩ := h <;> rfl

/-- The additions and subtractions of formats T2 and T3. -/
theorem exec_tAddSub {st : State} {o : AluOp} {a b : Word} {i : Instr} {rd rs rn : LoReg} {imm3 : BitVec 3}
    {imm8 : BitVec 8}
    (h : (o, a, b, i) ∈
      [(AluOp.add, st.reg (low rs), st.reg (low rn), Instr.tAddReg rn rs rd),
       (.sub, st.reg (low rs), st.reg (low rn), .tSubReg rn rs rd),
       (.add, st.reg (low rs), imm3.setWidth 32, .tAddImm3 imm3 rs rd),
       (.sub, st.reg (low rs), imm3.setWidth 32, .tSubImm3 imm3 rs rd),
       (.add, st.reg (low rd), imm8.setWidth 32, .tAddImm8 rd imm8),
       (.sub, st.reg (low rd), imm8.setWidth 32, .tSubImm8 rd imm8)]) :
    (o = .add ∨ o = .sub) ∧
      exec i st = .next (st.aluLo rd (o.eval a { value := b, carry := st.cpsr.c } st.cpsr)) := by
  simp only [List.mem_cons, Prod.mk.injEq, List.not_mem_nil, or_false] at h
  obtain ⟨rfl, rfl, rfl, rfl⟩ | ⟨rfl, rfl, rfl, rfl⟩ | ⟨rfl, rfl, rfl, rfl⟩ | ⟨rfl, rfl, rfl, rfl⟩ |
    ⟨rfl, rfl, rfl, rfl⟩ | ⟨rfl, rfl, rfl, rfl⟩ := h
  case inl | inr.inr.inl | inr.inr.inr.inr.inl => exact ⟨.inl rfl, rfl⟩
  case inr.inl | inr.inr.inr.inl | inr.inr.inr.inr.inr => exact ⟨.inr rfl, rfl⟩

/-- Settles O41: MOV for the shifts and the immediate, ADD and SUB, and CMP, which sets the flags alone. -/
theorem narrowShiftAddResult : Obligations.NarrowShiftAddResult := by
  intro st rd rs rn imm5 imm3 imm8
  refine ⟨fun sh i hi => ?shifts, fun o a b i hi => ?addSub, ?mov, ?cmp⟩
  case shifts =>
    obtain ⟨hreg, hflags⟩ := st.aluLo_eval rd .mov 0 (shiftImm sh imm5 (st.reg (low rs)) st.cpsr.c)
    exact ⟨_, exec_tShiftImm hi st, hreg, hreg ▸ hflags, st.aluLo_kept rd _⟩
  case addSub =>
    obtain ⟨ho, hexec⟩ := exec_tAddSub hi
    obtain ⟨hreg, hflags⟩ := st.aluLo_eval rd o a { value := b, carry := st.cpsr.c }
    have hresult : dpResult o a b st.cpsr.c = dpResult o a b false := by obtain rfl | rfl := ho <;> rfl
    exact ⟨_, hexec, hreg.trans hresult, hflags, st.aluLo_kept rd _⟩
  case mov =>
    obtain ⟨hreg, hflags⟩ := st.aluLo_eval rd .mov 0 { value := imm8.setWidth 32, carry := st.cpsr.c }
    exact ⟨_, rfl, hreg, hflags, st.aluLo_kept rd _⟩
  case cmp =>
    exact ⟨_, rfl, st.setAluFlags_eval .cmp (st.reg (low rd)) { value := imm8.setWidth 32, carry := st.cpsr.c }⟩

/-! ## Format T4 -/

/-- What an operation of format T4 gives: `a` is Rd, `b` is Rs. For MUL, whose carry is a free value, it is not used. -/
def T4Op.alu (op : T4Op) (a b : Word) (p : Status) : Alu :=
  { result := op.result a b p.c, carry := (op.carry a b p.c).getD p.c, overflow := op.overflow a b p.c p.v }

/-- MUL aside, an operation of format T4 writes what it gives to Rd and the flags, or to the flags alone (47 section
5). -/
theorem exec_t4 {op : T4Op} (h : op ≠ .mul) (rs rd : LoReg) (st : State) :
    exec (t4Instr op rs rd) st =
      .next (if op.writes then st.aluLo rd (op.alu (st.reg (low rd)) (st.reg (low rs)) st.cpsr)
        else st.setAluFlags (op.alu (st.reg (low rd)) (st.reg (low rs)) st.cpsr)) := by
  have heval (o : AluOp) (a b : Word) := AluOp.eval_eq o a { value := b, carry := st.cpsr.c } st.cpsr
  cases op with
  | mul => exact absurd rfl h
  | and | eor | lsl | lsr | asr | ror | tst | orr | bic | mvn => rfl
  | adc => exact congrArg (Host.Outcome.next ∘ st.aluLo rd) (heval .adc (st.reg (low rd)) (st.reg (low rs)))
  | sbc => exact congrArg (Host.Outcome.next ∘ st.aluLo rd) (heval .sbc (st.reg (low rd)) (st.reg (low rs)))
  | neg => exact congrArg (Host.Outcome.next ∘ st.aluLo rd) (heval .sub 0 (st.reg (low rs)))
  | cmp => exact congrArg (Host.Outcome.next ∘ st.setAluFlags) (heval .sub (st.reg (low rd)) (st.reg (low rs)))
  | cmn => exact congrArg (Host.Outcome.next ∘ st.setAluFlags) (heval .add (st.reg (low rd)) (st.reg (low rs)))

theorem exec_tMul (rs rd : LoReg) (st : State) :
    exec (.tMul rs rd) st = st.writeMul true (low rd) (st.reg (low rd) * st.reg (low rs)) := rfl

/-- MUL has a carry that is free, and no other operation of format T4 has (47 R337). -/
theorem T4Op.carry_isSome {op : T4Op} (h : op ≠ .mul) (a b : Word) (c : Bool) : (op.carry a b c).isSome = true := by
  cases op with
  | mul => exact absurd rfl h
  | _ => rfl

/-- The flags of an operation of format T4 other than MUL. -/
theorem T4Op.flagged {op : T4Op} (h : op ≠ .mul) (a b : Word) {st t : State} (ht : t.cpsr = st.cpsr) :
    Flagged st (t.setAluFlags (op.alu a b st.cpsr)) (op.result a b st.cpsr.c)
      ((op.carry a b st.cpsr.c).getD (t.setAluFlags (op.alu a b st.cpsr)).cpsr.c)
      (op.overflow a b st.cpsr.c st.cpsr.v) := by
  obtain ⟨carry, hcarry⟩ := Option.isSome_iff_exists.1 (op.carry_isSome h a b st.cpsr.c)
  rw [Flagged, State.setAluFlags_cpsr, ht, T4Op.alu, BitVec.msb_eq_getLsbD_last, hcarry]
  rfl

/-- Settles O42: MUL is the wide multiply's body; every other operation writes Rd and the flags, or the flags alone. -/
theorem narrowRegisterResult : Obligations.NarrowRegisterResult := by
  intro op rs rd st
  by_cases hmul : op = .mul
  · subst hmul
    obtain ⟨t, ht, hreg, hflags, hkept⟩ :=
      st.writeMul_result true (low_ne_pc rd) (st.reg (low rd) * st.reg (low rs))
    have hproduct : st.reg (low rd) * st.reg (low rs) =
        T4Op.mul.result (st.reg (low rd)) (st.reg (low rs)) st.cpsr.c := rfl
    rw [hproduct] at hreg
    rw [if_pos rfl, hreg] at hflags
    exact ⟨t, (exec_tMul rs rd st).trans ht, fun _ => hreg, hflags, hkept⟩
  · rw [exec_t4 hmul]
    cases hw : op.writes with
    | true =>
      exact ⟨_, rfl, fun _ => State.reg_setReg_self .., op.flagged hmul _ _ rfl, st.aluLo_kept rd _⟩
    | false =>
      obtain ⟨hregs, hpc, -, hsystem, hmem⟩ :=
        st.setAluFlags_kept (op.alu (st.reg (low rd)) (st.reg (low rs)) st.cpsr)
      exact ⟨_, rfl, nofun, op.flagged hmul _ _ rfl, hregs, hpc, hsystem, hmem⟩


/-! ## The wide instruction of each row (47 R360) -/

/-- An immediate that is not rotated is itself, and the carry is kept (42 R193). -/
theorem immOperand_zero (imm8 : BitVec 8) (c : Bool) :
    immOperand 0 imm8 c = { value := imm8.setWidth 32, carry := c } :=
  congrArg (Shifted.mk · c) (rotateRight_zero_word _)

/-- A narrow register as a shift amount passes the check of the wide form (42 R195). -/
theorem checkShiftReg_low (rs : LoReg) : checkShiftReg (low rs) = none :=
  firstOf_cons_none.2 ⟨beq_eq_false_iff_ne.2 (low_ne_pc rs), rfl⟩

/-- The wide form with S and a low register as its destination writes that register and the flags. -/
theorem exec_dpInstr_low {o : AluOp} (ho : o.writes = true) {form : DpForm} (hf : form.check = none) (rn : Reg)
    (rd : LoReg) (st : State) :
    exec (dpInstr o .al true rn (low rd) form) st = .next (st.aluLo rd (form.alu o st rn)) := by
  rw [exec_dpInstr_passed rfl hf, State.dpBody_writes ho, State.writeAlu, if_neg (low_ne_pc rd)]
  rfl

theorem exec_dpInstr_compare {o : AluOp} (ho : o.writes = false) {form : DpForm} (hf : form.check = none) (rn rd : Reg)
    (st : State) : exec (dpInstr o .al true rn rd form) st = .next (st.setAluFlags (form.alu o st rn)) := by
  rw [exec_dpInstr_passed rfl hf, State.dpBody_compare ho]

/-- The wide form without S writes its destination alone. -/
theorem exec_dpInstr_noFlags {o : AluOp} (ho : o.writes = true) {form : DpForm} (hf : form.check = none) (rn : Reg)
    {rd : Reg} (hd : rd ≠ 15) (st : State) :
    exec (dpInstr o .al false rn rd form) st = .next (st.setReg rd (form.alu o st rn).result) := by
  rw [exec_dpInstr_passed rfl hf, State.dpBody_writes ho, State.writeAlu, if_neg hd]
  rfl

/-- A rotation by 30 is a multiplication by four (42 R193, 47 R351). -/
theorem immOperand_fifteen_value (imm8 : BitVec 8) (c : Bool) : (immOperand 15 imm8 c).value = scaled4 imm8 := by
  have hshift : (imm8.setWidth 32).rotateRight 30 = imm8.setWidth 32 <<< 2 := by
    refine BitVec.eq_of_getLsbD_eq fun i hi => ?_
    rw [getLsbD_rotateRight_word _ (by decide) hi, BitVec.getLsbD_shiftLeft]
    interval_cases i <;> simp
  exact hshift.trans (BitVec.shiftLeft_eq_mul_twoPow _ 2)

theorem AluOp.eval_add_result (op1 : Word) (op2 : Shifted) (p : Status) :
    (AluOp.add.eval op1 op2 p).result = op1 + op2.value := by
  rw [AluOp.eval_eq, dpResult]

theorem AluOp.eval_sub_result (op1 : Word) (op2 : Shifted) (p : Status) :
    (AluOp.sub.eval op1 op2 p).result = op1 - op2.value := by
  rw [AluOp.eval_eq, dpResult]

theorem scaled4_setWidth (imm7 : BitVec 7) : scaled4 (imm7.setWidth 8) = scaled4 imm7 :=
  congrArg (· * 4) (BitVec.eq_of_toNat_eq (by simp only [BitVec.toNat_setWidth]; omega))

/-- The arithmetic on SP: an immediate rotated by 30 is four times the narrow one (47 R351 to R353). -/
theorem exec_addSub_sp {o : AluOp} {f : Word → Word → Word} (ho : o.writes = true)
    (hf : ∀ op1 op2 p, (o.eval op1 op2 p).result = f op1 op2.value) {rd : Reg} (hd : rd ≠ 15) (imm8 : BitVec 8)
    (st : State) :
    exec (dpInstr o .al false 13 rd (.imm 15 imm8)) st = .next (st.setReg rd (f (st.reg 13) (scaled4 imm8))) := by
  rw [exec_dpInstr_noFlags ho rfl 13 hd, DpForm.alu, hf, ← immOperand_fifteen_value]
  rfl

theorem exec_tMul_wide {rs rd : LoReg} (h : rd ≠ rs) (st : State) :
    exec (.mul .al true (low rd) 0 (low rd) (low rs)) st = exec (.tMul rs rd) st := by
  have hcheck : checkMul (low rd) (low rs) (low rd) = none := by
    refine firstOf_cons_none.2 ⟨?_, firstOf_cons_none.2 ⟨beq_eq_false_iff_ne.2 fun he => h (low_injective he), rfl⟩⟩
    simp only [beq_eq_false_iff_ne.2 (low_ne_pc _), Bool.or_false]
  rw [exec_tMul, BitVec.mul_comm]
  exact guarded_none hcheck _

/-- An unrotated immediate as the second operand (42 R193). -/
theorem exec_dpImm_low {o : AluOp} (ho : o.writes = true) (rn : Reg) (rd : LoReg) (imm8 : BitVec 8) (st : State) :
    exec (dpInstr o .al true rn (low rd) (.imm 0 imm8)) st =
      .next (st.aluLo rd (o.eval (st.reg rn) { value := imm8.setWidth 32, carry := st.cpsr.c } st.cpsr)) := by
  rw [exec_dpInstr_low ho rfl, ← immOperand_zero]
  rfl

theorem exec_dpImm_compare {o : AluOp} (ho : o.writes = false) (rn rd : Reg) (imm8 : BitVec 8) (st : State) :
    exec (dpInstr o .al true rn rd (.imm 0 imm8)) st =
      .next (st.setAluFlags (o.eval (st.reg rn) { value := imm8.setWidth 32, carry := st.cpsr.c } st.cpsr)) := by
  rw [exec_dpInstr_compare ho rfl, ← immOperand_zero]
  rfl

theorem setWidth_imm3 (imm3 : BitVec 3) : ((imm3.setWidth 8).setWidth 32 : Word) = imm3.setWidth 32 :=
  BitVec.eq_of_toNat_eq (by simp only [BitVec.toNat_setWidth]; omega)

/-- A narrow shift by a register is MOV of the register-shifted Rd (47 R326 to R328, R331). -/
theorem exec_movRegRs_low (sh : Shift) (rs rd : LoReg) (st : State) :
    exec (dpInstr .mov .al true 0 (low rd) (.regRs (low rs) sh (low rd))) st =
      .next (st.aluLo rd
        (st.shiftedAlu (shiftReg sh ((st.reg (low rs)).setWidth 8) (st.reg (low rd)) st.cpsr.c))) := by
  rw [exec_dpInstr_low rfl (form := .regRs (low rs) sh (low rd)) (checkShiftReg_low rs), DpForm.alu, DpForm.op2,
    if_neg (low_ne_pc rd)]
  rfl

theorem State.writeHi_of_ne {d : Reg} (h : d ≠ 15) (st : State) (r : Word) : st.writeHi d r = st.setReg d r := if_neg h

/-- The high-register ADD and MOV, r15 aside as their destination (47 R340, R342). -/
theorem exec_dpRegIs_high {o : AluOp} (ho : o.writes = true) (rn : Reg) {d : Reg} (hd : d ≠ 15) (s : Reg) (st : State) :
    exec (dpInstr o .al false rn d (.regIs 0 .lsl s)) st =
      .next (st.writeHi d (o.eval (st.reg rn) { value := st.reg s, carry := st.cpsr.c } st.cpsr).result) := by
  rw [exec_dpInstr_noFlags ho rfl rn hd, State.writeHi_of_ne hd]
  rfl

/-- Settles O44: each wide form, its operands put in, writes what the narrow meaning writes. -/
theorem narrowActsAsWide : Obligations.NarrowActsAsWide := by
  rintro st rd rs rn imm5 imm3 imm8 imm7 h1 h2 d s sbz rfl rfl
  have hshift (sh : Shift) := exec_dpInstr_low (o := .mov) (form := .regIs imm5 sh (low rs)) rfl rfl 0 rd st
  have hreg (o : AluOp) (ho : o.writes = true) (rn rm : LoReg) :=
    exec_dpInstr_low ho (form := .regIs 0 .lsl (low rm)) rfl (low rn) rd st
  have hcompare (o : AluOp) (ho : o.writes = false) (rn rm : Reg) :=
    exec_dpInstr_compare ho (form := .regIs 0 .lsl rm) rfl rn 0 st
  have himm (o : AluOp) (ho : o.writes = true) (rn : Reg) (imm8 : BitVec 8) := exec_dpImm_low ho rn rd imm8 st
  have himm3 (o : AluOp) (ho : o.writes = true) := setWidth_imm3 imm3 ▸ himm o ho (low rs) (imm3.setWidth 8)
  have hsp (o : AluOp) (ho : o.writes = true) {f : Word → Word → Word}
      (hf : ∀ op1 op2 p, (o.eval op1 op2 p).result = f op1 op2.value) :=
    scaled4_setWidth imm7 ▸ exec_addSub_sp ho hf (rd := 13) (by decide) (imm7.setWidth 8) st
  refine ⟨(hshift .lsl).symm, (hshift .lsr).symm, (hshift .asr).symm,
    (hreg .add rfl rs rn).symm, (hreg .sub rfl rs rn).symm, (himm3 .add rfl).symm, (himm3 .sub rfl).symm,
    (himm .mov rfl 0 imm8).symm, (exec_dpImm_compare (o := .cmp) rfl (low rd) 0 imm8 st).symm,
    (himm .add rfl (low rd) imm8).symm, (himm .sub rfl (low rd) imm8).symm,
    (hreg .and rfl rd rs).symm, (hreg .eor rfl rd rs).symm,
    (exec_movRegRs_low .lsl rs rd st).symm, (exec_movRegRs_low .lsr rs rd st).symm,
    (exec_movRegRs_low .asr rs rd st).symm,
    (hreg .adc rfl rd rs).symm, (hreg .sbc rfl rd rs).symm, (exec_movRegRs_low .ror rs rd st).symm,
    (hcompare .tst rfl (low rd) (low rs)).symm, (himm .rsb rfl (low rs) 0).symm,
    (hcompare .cmp rfl (low rd) (low rs)).symm, (hcompare .cmn rfl (low rd) (low rs)).symm,
    (hreg .orr rfl rd rs).symm, fun h => (exec_tMul_wide h st).symm, (hreg .bic rfl rd rs).symm,
    (hreg .mvn rfl rd rs).symm, fun hd => ?addHi, (hcompare .cmp rfl (high h1 rd) (high h2 rs)).symm,
    fun hd => (exec_dpRegIs_high (o := .mov) rfl 0 hd (high h2 rs) st).symm, rfl,
    (exec_addSub_sp rfl AluOp.eval_add_result (low_ne_pc rd) imm8 st).symm,
    (hsp .add rfl AluOp.eval_add_result).symm, (hsp .sub rfl AluOp.eval_sub_result).symm⟩
  case addHi =>
    have hwide := exec_dpRegIs_high (o := .add) rfl (high h1 rd) hd (high h2 rs) st
    rw [AluOp.eval_add_result] at hwide
    exact hwide.symm

end Sys2Proof.Machine
end

section
/-! PROOF. The narrow high-register instructions, BX, and address arithmetic on PC and SP (47 R340 to R343, R350 to
R353). -/

namespace Sys2Proof.Machine

/-- A write of format T5: a branch with bit 0 dropped to r15, else the register alone (47 R340, R342). -/
theorem State.writeHi_result (st : State) (d : Reg) (r : Word) :
    (st.writeHi d r).cpsr = st.cpsr ∧ (st.writeHi d r).reg d = (if d = 15 then r &&& 0xFFFFFFFE else r) ∧
      (d = 15 → (st.writeHi d r).redirected = true) ∧ RegsKeptBut [d] st (st.writeHi d r) ∧
      (d ≠ 15 → PcKept st (st.writeHi d r)) ∧ SystemKept st (st.writeHi d r) ∧ MemKept st (st.writeHi d r) := by
  by_cases hd : d = 15
  · subst hd
    obtain ⟨hregs, hcpsr, hsystem, hmem⟩ := st.branchTo_kept (align2 r)
    exact ⟨hcpsr, State.reg_setReg_self .., fun _ => rfl, fun q hq _ => hregs q hq List.not_mem_nil,
      fun h => absurd rfl h, hsystem, hmem⟩
  · obtain ⟨hregs, hpc, hsystem, hmem⟩ := st.setReg_kept hd r
    rw [State.writeHi_of_ne hd, if_neg hd]
    exact ⟨rfl, State.reg_setReg_self .., fun h => absurd h hd, hregs, fun _ => hpc, hsystem, hmem⟩

/-- `zext(imm) * 4` of an immediate of any width (30_encoding R127). -/
theorem scaled4_ofNat {n : Nat} (imm : BitVec n) : scaled4 imm = BitVec.ofNat 32 (4 * imm.toNat) := by
  rw [scaled4, ← BitVec.ofNat_toNat, Nat.mul_comm, BitVec.ofNat_mul]
  rfl

/-- An instruction that writes one register other than r15 and nothing else (47 R350 to R353). -/
theorem State.setReg_result (st : State) {d : Reg} (hd : d ≠ 15) (v : Word) :
    (st.setReg d v).cpsr = st.cpsr ∧ (st.setReg d v).reg d = v ∧ RegsKeptBut [d] st (st.setReg d v) ∧
      PcKept st (st.setReg d v) ∧ SystemKept st (st.setReg d v) ∧ MemKept st (st.setReg d v) :=
  ⟨rfl, st.reg_setReg_self d v, st.setReg_kept hd v⟩

/-- Settles O43: ADD and MOV are the write of format T5, BX is the wide one, the address forms write one register. -/
theorem narrowHighAndAddressResult : Obligations.NarrowHighAndAddressResult := by
  rintro st h1 h2 rs rd d s sbz imm8 imm7 rfl rfl
  obtain ⟨-, -, hbx⟩ := branchResult .al st rfl
  refine ⟨⟨_, rfl, st.writeHi_result _ _⟩, ⟨_, rfl, st.writeHi_result _ _⟩, ?cmp, hbx _, ?pc, ?sp, ?spimm, ?subSp⟩
  case cmp =>
    exact ⟨_, rfl, st.setAluFlags_eval .cmp (st.reg (high h1 rd)) { value := st.reg (high h2 rs), carry := st.cpsr.c }⟩
  case pc => exact ⟨_, rfl, scaled4_ofNat imm8 ▸ st.setReg_result (low_ne_pc rd) (st.pcRelative imm8)⟩
  case sp => exact ⟨_, rfl, scaled4_ofNat imm8 ▸ st.setReg_result (low_ne_pc rd) (st.reg 13 + scaled4 imm8)⟩
  case spimm => exact ⟨_, rfl, scaled4_ofNat imm7 ▸ st.setReg_result (d := 13) (by decide) (st.reg 13 + scaled4 imm7)⟩
  case subSp => exact ⟨_, rfl, scaled4_ofNat imm7 ▸ st.setReg_result (d := 13) (by decide) (st.reg 13 - scaled4 imm7)⟩

end Sys2Proof.Machine
end

section
/-! PROOF. The narrow stores and POP (48 R371 to R392): the store of each width without write-back, and the loads of LDM
with SP moved past them. -/

namespace Sys2Proof.Machine

/-! ## Stores -/

/-- A narrow store to storage: its bytes, and nothing else changes (48 R371). -/
theorem State.storeLo_inMemory {st : State} {n : Nat} (hn : n = 4 ∨ n = 2 ∨ n = 1) {ea : Word}
    (hm : Memory.wf st.mem = true) (h : InMemory st.params (storeAddress n ea)) (v : Word) :
    ∃ t, st.storeLo (st.storeAs n ea v) = .next t ∧ Stored (cellOf st.params (storeAddress n ea)) n v st t ∧
      RegsKeptBut [] st t ∧ PcKept st t ∧ t.cpsr = st.cpsr ∧ SystemKept st t := by
  obtain ⟨m, hstore, hs⟩ := State.storeAs_inMemory hn hm h v
  exact ⟨_, congrArg _ hstore, hs, fun _ _ _ => rfl, ⟨rfl, rfl⟩, rfl, ⟨rfl, rfl, rfl, rfl, rfl, rfl, rfl⟩⟩

theorem TStore.bytes_cases (op : TStore) : op.bytes = 4 ∨ op.bytes = 2 ∨ op.bytes = 1 := by cases op <;> decide

/-- Settles O46: each narrow store is the store of its width, the SP-relative one among them. -/
theorem narrowStoreResult : Obligations.NarrowStoreResult := by
  refine ⟨fun op ro rb rd imm5 st a hm ha hin => ?_, fun rd imm8 st a hm ha hin => ?_⟩
  · subst ha
    rw [exec_tStore]
    exact State.storeLo_inMemory op.bytes_cases hm hin _
  · subst ha
    rw [exec_tStrSp]
    exact State.storeLo_inMemory (.inl rfl) hm hin _

/-! ## POP -/

/-- POP has SP in no list, and r15 where its bit R is set (48 R391). -/
theorem getLsbD_popList (r : Bool) (rlist : BitVec 8) :
    (BitVec.ofBool r ++ 0#7 ++ rlist : BitVec 16).getLsbD 13 = false ∧
      (BitVec.ofBool r ++ 0#7 ++ rlist : BitVec 16).getLsbD 15 = r := by
  simp only [BitVec.getLsbD_append]
  cases r <;> exact ⟨rfl, rfl⟩

/-- POP from memory: the loads with SP as the base that is written back, and then r15 (48 R391). -/
theorem State.pop_readable {st : State} {list : BitVec 16} (h13 : list.getLsbD 13 = false)
    (hr : SlotsReadable st.params (st.reg 13) (listCount list)) :
    st.pop list =
      .next ((st.loaded true 13 list (st.reg 13) (st.reg 13 + listBytes list)).blockPc list
        (align2 (if list.getLsbD 15 then slotWord st (st.reg 13) (listCount list - 1) else 0))) := by
  have hbase (s : State) (final : Word) : s.blockBase true 13 list final = s.setReg 13 final :=
    if_pos (congrArg not h13)
  rw [State.loaded, hbase, State.pop, State.ldmLoads]
  exact congrArg (Block.finish · _) (regAccess_live.loadBlock_readable hr)

/-- Settles O33: the loads with SP as their base, and then, where R is set, the branch with bit 0 dropped. -/
theorem popResult : Obligations.PopResult := by
  intro r rlist list st hne hlist hr
  obtain ⟨h13, h15⟩ := hlist ▸ getLsbD_popList r rlist
  obtain ⟨hloaded, hbase, hregs, hpc, hc, hsystem, hmem⟩ :=
    st.loaded_result true (rn := 13) (by decide) list (st.reg 13) (st.reg 13 + listBytes list)
  have hsp := hbase rfl h13
  have hmem' : MemKept st _ := fun a => congrArg (Memory.read · a) hmem
  rw [exec_tPop (checkStack_none hne), ← hlist, State.pop_readable h13 hr, State.blockPc, h15]
  cases r with
  | false => exact ⟨_, rfl, hloaded, hsp, nofun, hregs, fun _ => hpc, hc, hsystem, hmem'⟩
  | true =>
    refine ⟨_, rfl, fun k q hk hq hne15 => ?_, (State.reg_setReg_ne _ _ (by decide)).trans hsp,
      fun _ => ⟨rfl, State.reg_setReg_self ..⟩, fun q hne15 hq => ?_, nofun, hc, hsystem, hmem'⟩
    · exact (State.reg_setReg_ne _ _ hne15).trans (hloaded k q hk hq hne15)
    · exact (State.reg_setReg_ne _ _ hne15).trans (hregs q hne15 hq)

end Sys2Proof.Machine
end

section
/-! PROOF. The narrow branches (48 R405 to R412): the fourteen conditional ones, B, and the two halves of BL, one by one
and one after the other. -/

namespace Sys2Proof.Machine

/-! ## Offsets -/

/-- A zero bit below a signed field multiplies it by two (48 R405, R407). -/
theorem halfOffset_eq_ofInt {n : Nat} (imm : BitVec n) : halfOffset imm = BitVec.ofInt 32 (2 * imm.toInt) :=
  congrArg (BitVec.ofInt 32) BitVec.toInt_append_zero

theorem linkHigh_eq_ofInt (imm11 : BitVec 11) : linkHigh imm11 = BitVec.ofInt 32 (4096 * imm11.toInt) := by
  rw [linkHigh, BitVec.shiftLeft_eq_mul_twoPow, BitVec.mul_comm, BitVec.ofInt_mul]
  rfl

theorem linkLow_eq_ofNat (imm11 : BitVec 11) : linkLow imm11 = BitVec.ofNat 32 (2 * imm11.toNat) := by
  rw [linkLow, BitVec.shiftLeft_eq_mul_twoPow, BitVec.mul_comm, BitVec.ofNat_mul, BitVec.ofNat_toNat]
  rfl

/-- The two parts of a BL offset add up to the joined field (48 R412). -/
theorem linkHigh_add_linkLow (hi lo : BitVec 11) :
    linkHigh hi + linkLow lo = (hi ++ lo ++ 0#1 : BitVec 23).signExtend 32 := by
  have hjoined : (hi ++ lo ++ 0#1 : BitVec 23).toInt = 4096 * hi.toInt + (2 * lo.toNat : Nat) := by
    have happend : (hi ++ lo : BitVec 22).toInt = 2 ^ 11 * hi.toInt + lo.toNat :=
      BitVec.toInt_append.trans (if_neg nofun)
    rw [BitVec.toInt_append_zero, happend]
    omega
  rw [linkHigh_eq_ofInt, linkLow_eq_ofNat, BitVec.signExtend, hjoined, BitVec.ofInt_add, BitVec.ofInt_natCast]

/-! ## The branches -/

theorem exec_branchInstr {c : Cond} {imm8 : BitVec 8} {i : Instr} (h : branchInstr c imm8 = some i) (st : State) :
    exec i st = .next (st.branchIf c imm8) := by
  cases c <;> cases h <;> rfl

theorem State.branchIf_taken {st : State} {c : Cond} (h : Cond.holds c st.cpsr = true) (imm8 : BitVec 8) :
    st.branchIf c imm8 = st.branchTo (st.reg 15 + BitVec.ofInt 32 (2 * imm8.toInt)) := by
  rw [← halfOffset_eq_ofInt]
  exact if_pos h

theorem State.branchIf_skipped {st : State} {c : Cond} (h : Cond.holds c st.cpsr = false) (imm8 : BitVec 8) :
    st.branchIf c imm8 = st := if_neg (Bool.eq_false_iff.1 h)

theorem exec_tB (imm11 : BitVec 11) (st : State) :
    exec (.tB imm11) st = .next (st.branchTo (st.reg 15 + BitVec.ofInt 32 (2 * imm11.toInt))) := by
  rw [← halfOffset_eq_ofInt]
  rfl

theorem exec_tBlHi (imm11 : BitVec 11) (st : State) :
    exec (.tBlHi imm11) st = .next (st.setReg 14 (st.reg 15 + linkHigh imm11)) := rfl

theorem exec_tBlLo (imm11 : BitVec 11) (st : State) :
    exec (.tBlLo imm11) st = .next ((st.branchTo (st.reg 14 + linkLow imm11)).setReg 14 ((st.reg 15 - 2) ||| 1)) := rfl

/-- Settles O47: a branch taken, nothing, or the write of r14, alone or after the branch. -/
theorem narrowBranchResult : Obligations.NarrowBranchResult := by
  refine ⟨fun c imm8 i st hi => ?_, fun imm11 st => ⟨?b, ?hi, ?lo⟩⟩
  · rw [exec_branchInstr hi]
    cases hc : Cond.holds c st.cpsr with
    | true =>
      rw [State.branchIf_taken hc]
      exact ⟨_, rfl, fun _ => ⟨rfl, State.reg_setReg_self ..⟩, nofun, State.branchTo_kept st _⟩
    | false =>
      rw [State.branchIf_skipped hc]
      exact ⟨st, rfl, nofun, fun _ => rfl, fun _ _ _ => rfl, rfl, ⟨rfl, rfl, rfl, rfl, rfl, rfl, rfl⟩, fun _ => rfl⟩
  case b => exact ⟨_, exec_tB imm11 st, rfl, State.reg_setReg_self .., State.branchTo_kept st _⟩
  case hi =>
    obtain ⟨hregs, hpc, hsystem, hmem⟩ := st.setReg_kept (rd := 14) (by decide) (st.reg 15 + linkHigh imm11)
    exact ⟨_, exec_tBlHi imm11 st, linkHigh_eq_ofInt imm11 ▸ State.reg_setReg_self .., hregs, hpc, rfl, hsystem, hmem⟩
  case lo =>
    obtain ⟨hbranch, hcpsr, hsystem, hmem⟩ := st.branchTo_kept (st.reg 14 + linkLow imm11)
    refine ⟨_, exec_tBlLo imm11 st, rfl, ?_, State.reg_setReg_self .., fun q hq hd => ?_, hcpsr, hsystem, hmem⟩
    · rw [State.reg_setReg_ne _ _ (by decide), linkLow_eq_ofNat]
      exact State.reg_setReg_self ..
    · rw [State.reg_setReg_ne _ _ (List.ne_of_not_mem_cons hd)]
      exact hbranch q hq List.not_mem_nil

/-- Settles O48: the second half finds the first one's sum in r14, and x[15] moved on by 2. -/
theorem branchLinkPair : Obligations.BranchLinkPair := by
  intro hi lo st hr
  have hreg (q : Reg) := State.finishStep_reg (st.setReg 14 (st.reg 15 + linkHigh hi)) 2 q
  refine ⟨_, _, exec_tBlHi hi st, exec_tBlLo lo _, ?_, ?_, rfl⟩
  · rw [State.reg_setReg_ne _ _ (by decide), State.reg_branchTo, if_pos rfl, hreg 14, if_neg (by decide),
      State.reg_setReg_self, BitVec.add_assoc, linkHigh_add_linkLow]
  · rw [State.reg_setReg_self, hreg 15, if_pos rfl, State.setReg_redirected, hr, if_neg nofun,
      State.reg_setReg_ne _ _ (by decide), BitVec.add_sub_cancel]

end Sys2Proof.Machine
end

section
/-! PROOF. What a CPU step takes before and instead of an instruction (40 R153, 60 R440, R443), and which agent has the
tick (60 R479, R500 to R502). -/

namespace Sys2Proof.Machine

/-! ## The asynchronous check -/

theorem Devices.irqLine_iff (d : Devices) : d.irqLine = true ↔ d.enabled &&& d.pending ≠ 0 ∧ d.master = true := by
  simp [Devices.irqLine, Devices.anyPending]

section
variable {s : State}

theorem State.asyncException_reset (h : s.dev.rstPending = true) : s.asyncException = some .reset := if_pos h

theorem State.asyncException_fiq (hr : s.dev.rstPending = false) (hq : s.dev.fiqPending = true)
    (hf : s.cpsr.f = false) : s.asyncException = some .fiq := by
  simp [State.asyncException, hr, hq, hf]

/-- Without Reset and FIQ the check is for IRQ alone (60 R440). -/
theorem State.asyncException_of_noFiq (hr : s.dev.rstPending = false)
    (hq : ¬(s.dev.fiqPending = true ∧ s.cpsr.f = false)) :
    s.asyncException = if s.dev.irqLine && !s.cpsr.i then some .irq else none := by
  have hno : (s.dev.fiqPending && !s.cpsr.f) = false := by simpa using hq
  simp [State.asyncException, hr, hno]

theorem State.asyncException_irq (hr : s.dev.rstPending = false) (hq : ¬(s.dev.fiqPending = true ∧ s.cpsr.f = false))
    (hl : s.dev.irqLine = true) (hi : s.cpsr.i = false) : s.asyncException = some .irq := by
  rw [State.asyncException_of_noFiq hr hq, hl, hi]
  rfl

theorem State.asyncException_none (hr : s.dev.rstPending = false) (hq : ¬(s.dev.fiqPending = true ∧ s.cpsr.f = false))
    (hi : ¬(s.dev.irqLine = true ∧ s.cpsr.i = false)) : s.asyncException = none := by
  rw [State.asyncException_of_noFiq hr hq]
  exact if_neg (by simpa using hi)

/-! ## The step -/

/-- Preparing a step changes nothing that the check looks at. -/
theorem State.prepared_asyncException (s : State) : s.prepared.asyncException = s.asyncException := rfl

theorem State.cpuStep_of_exception {e : Exc} (h : s.asyncException = some e) :
    s.cpuStep = .next ((s.prepared.enterAsync e).finishStep (widthOf s.cpsr.t)) := by
  rw [State.cpuStep, State.prepared_asyncException, h]
  rfl

/-- A fetch that fails takes the Prefetch Abort (40 R153). -/
theorem State.fetchAndRun_of_fails
    (h : if s.cpsr.t then s.load16 s.currentInstruction = none else s.load32 s.currentInstruction = none) :
    s.fetchAndRun = .next (s.drawn.enter .prefetchAbort) := by
  unfold State.fetchAndRun
  split at h
  · next ht => rw [if_pos ht, h]
  · next ht => rw [if_neg ht, h]

end

/-- Settles O9: what the check finds is entered before any fetch, and a fetch that fails is entered as its abort. -/
theorem stepTakesExceptions : Obligations.StepTakesExceptions := by
  intro s
  refine ⟨fun hr => ?_, fun hr hq hf => ?_, fun hr hq hp hm hi => ?_, fun hr hq hi hfetch => ?_⟩
  · exact State.cpuStep_of_exception (State.asyncException_reset hr)
  · exact State.cpuStep_of_exception (State.asyncException_fiq hr hq hf)
  · exact State.cpuStep_of_exception (State.asyncException_irq hr hq ((Devices.irqLine_iff _).2 ⟨hp, hm⟩) hi)
  · have hnone : s.prepared.asyncException = none := by
      refine State.asyncException_none hr hq fun ⟨hl, hi'⟩ => ?_
      obtain ⟨hp, hm⟩ := (Devices.irqLine_iff _).1 hl
      exact hi ⟨hp, hm, hi'⟩
    rw [State.cpuStep_of_noException hnone, State.fetchAndRun_of_fails (s := s.prepared) hfetch]
    rfl

/-! ## The agent of a tick -/

theorem channels_take (ch : Fin 4) : ∀ j ∈ channels.take ch.val, j < ch := by
  fin_cases ch <;> decide

/-- The channel that is found is the lowest active one (60 R479). -/
theorem Devices.activeChannel_lowest {d : Devices} {ch : Fin 4} (ha : (d.dma[ch]).active = true)
    (hl : ∀ j : Fin 4, j < ch → (d.dma[j]).active = false) : d.activeChannel = some ch := by
  have hsplit : channels = channels.take ch.val ++ ch :: channels.drop (ch.val + 1) := by
    rw [← (channels_drop ch).1, List.take_append_drop]
  refine List.find?_eq_some_iff_append.2 ⟨ha, _, _, hsplit, fun j hj => ?_⟩
  rw [hl j (channels_take ch j hj)]
  rfl

theorem Devices.activeChannel_none {d : Devices} (h : ∀ ch : Fin 4, (d.dma[ch]).active = false) :
    d.activeChannel = none := List.find?_eq_none.2 fun ch _ => Bool.eq_false_iff.1 (h ch)

/-- Settles O10: the agent is the channel that is found, and without one the CPU in Run. -/
theorem agentOfTick : Obligations.AgentOfTick := by
  intro s
  refine ⟨fun ch ha hl => ?_, fun h => ⟨fun hp => ?_, fun hp => ?_⟩⟩
  · rw [State.agentStep, Devices.activeChannel_lowest ha hl]
  · exact State.agentStep_of_run (Devices.activeChannel_none h) hp
  · rw [State.agentStep, Devices.activeChannel_none h]
    cases hw : s.dev.power with
    | run => exact absurd hw hp
    | halt | stop => rfl

end Sys2Proof.Machine
end

section
/-! PROOF. Exception entry cell by cell, the link values, and the way back (60 R421 to R425, R436). -/

namespace Sys2Proof.Machine

/-! ## Link values (60 R422) -/

/-- The next instruction is one width after the current one (10_state R34). -/
theorem State.nextInstruction_eq (s : State) : s.nextInstruction = s.currentInstruction + widthOf s.cpsr.t := by
  rw [State.nextInstruction, State.currentInstruction]
  cases s.cpsr.t with
  | false =>
    change s.reg 15 - 4 = s.reg 15 - 8 + 4
    bv_omega
  | true =>
    change s.reg 15 - 2 = s.reg 15 - 4 + 2
    bv_omega

/-- Settles O12: the two helpers of 10_state R34 are A and A + w. -/
theorem linkValues : Obligations.LinkValues := by
  rintro s a w rfl rfl
  have hnext : s.nextInstruction = s.reg 15 - (if s.cpsr.t then 4 else 8) + (if s.cpsr.t then 2 else 4) :=
    s.nextInstruction_eq
  refine ⟨rfl, rfl, ?_, ?_, ?_, ?_⟩ <;> exact congrArg (· + Bias.at _ s.cpsr.t) hnext

/-! ## The entry cell by cell (60 R421) -/

@[simp] theorem State.loadStatus_nodeStores (s : State) (new : Status) :
    (s.loadStatus new).nodeStores = s.nodeStores := by
  by_cases h : s.cpsr.mode.bank = new.mode.bank
  · rw [State.loadStatus_same s new h]
  · rw [State.loadStatus_change s new h, State.loadBank, State.saveBank]
    dsimp only
    split <;> split <;> rfl

theorem State.enter_reg (s : State) (e : Exc) {r : Reg} (h14 : r ≠ 14) (h15 : r ≠ 15) :
    (s.enter e).reg r = (s.loadStatus (s.handlerStatus e)).reg r := by
  rw [State.enter, State.reg_branchTo, if_neg h15, State.reg_setReg_ne _ _ h14]
  rfl

theorem State.enter_liveHi (s : State) (e : Exc) : (s.enter e).liveHi = (s.loadStatus (s.handlerStatus e)).liveHi := by
  refine (State.liveHi_eq_iff _ _).2 fun r _ h12 => s.enter_reg e ?_ ?_ <;> rintro rfl <;> exact absurd h12 (by decide)

theorem State.enter_nodeStores (s : State) (e : Exc) : (s.enter e).nodeStores = s.nodeStores :=
  s.loadStatus_nodeStores (s.handlerStatus e)

/-- FIQ alone has the bank of FIQ (60 R420). -/
theorem Exc.bank_eq_fiq {e : Exc} : e.mode.bank = .fiq ↔ e = .fiq := by cases e <;> decide

/-- Settles O11: the status word, r14, r15 and the SPSR are written, and every other cell is where `load_status` leaves
it. -/
theorem exceptionEntry : Obligations.ExceptionEntry := by
  intro s e
  obtain ⟨hcpsr, hspsr, hmark, hdev, hmem, -⟩ := s.enter_frame e
  obtain ⟨-, hsame, hchange⟩ := loadStatusMovesBanks s (s.handlerStatus e)
  have h13 : (s.enter e).reg 13 = (s.loadStatus (s.handlerStatus e)).reg 13 := s.enter_reg e (by decide) (by decide)
  rw [hcpsr, s.enter_banks, s.enter_liveHi, h13]
  refine ⟨?mode, ?vector, hmark, rfl, rfl, ?f, rfl, rfl, rfl, rfl, fun he => ?saved, s.enter_link e,
    fun r hr => s.enter_reg_shared e r hr, fun hb => ?other, fun hb => ?same, hdev, hmem, s.enter_nodeStores e⟩
  case mode => cases e <;> rfl
  case vector =>
    rw [s.enter_pc]
    cases e <;> rfl
  case f => cases e <;> simp [State.handlerStatus, Exc.masksFiq]
  case saved =>
    rw [hspsr]
    cases e with
    | reset => exact absurd rfl he
    | _ => rfl
  case other =>
    obtain ⟨hsp, -, hsaved, -, hleft, hentered, helse, hr13, -⟩ := hchange hb
    exact ⟨hsp, hsaved, hr13, hleft, fun he => hentered (Exc.bank_eq_fiq.2 he),
      fun hf he => helse hf (he ∘ Exc.bank_eq_fiq.1)⟩
  case same =>
    obtain ⟨hregs, hbanks, -⟩ := hsame hb
    exact ⟨hbanks, hregs 13, (State.liveHi_eq_iff _ _).2 fun r _ _ => hregs r⟩

/-! ## Entry and return (60 R436) -/

theorem State.enter_mode (s : State) (e : Exc) : (s.enter e).cpsr.mode = e.mode :=
  congrArg Status.mode (s.enter_frame e).1

/-- r8 to r12 after an entry to another bank and the way back (60 R436). -/
theorem State.enter_return_liveHi {s : State} {e : Exc} (hb : s.cpsr.mode.bank ≠ e.mode.bank) :
    ((s.enter e).loadStatus s.cpsr).liveHi = s.liveHi := by
  obtain ⟨-, -, -, -, -, -, -, -, -, -, -, -, -, hother, -⟩ := exceptionEntry s e
  obtain ⟨-, -, -, hleft, hentered, helse⟩ := hother hb
  rw [State.loadStatus_liveHi _ _ (by rw [s.enter_mode]; exact hb.symm), s.enter_mode]
  split
  · next hf => exact (hleft hf).1
  · next hs =>
    split
    · next hf => exact (hentered (Exc.bank_eq_fiq.1 hf)).1
    · next hf => exact helse hs (hf ∘ Exc.bank_eq_fiq.2)

/-- The way back to the bank that was left loads what the entry saved (60 R436). -/
theorem State.enter_return_other {s : State} {e : Exc} (hb : s.cpsr.mode.bank ≠ e.mode.bank) :
    (∀ r : Reg, r ≠ 15 → ((s.enter e).loadStatus s.cpsr).reg r = s.reg r) ∧
      (s.cpsr.mode.hasSpsr = true → ((s.enter e).loadStatus s.cpsr).spsr = s.spsr) := by
  have hback : (s.enter e).cpsr.mode.bank ≠ s.cpsr.mode.bank := by
    rw [s.enter_mode]
    exact hb.symm
  obtain ⟨-, -, -, -, -, -, -, -, -, -, -, -, hlow, hother, -⟩ := exceptionEntry s e
  obtain ⟨hsp, hsaved, -⟩ := hother hb
  refine ⟨fun r h15 => ?_, fun hm => ?_⟩
  · obtain (hr | rfl) | ⟨h8, h12⟩ | rfl | rfl := reg_cases r
    · rw [State.loadStatus_reg_shared _ _ r (.inl hr), hlow r hr]
    · exact absurd rfl h15
    · exact (State.liveHi_eq_iff _ _).1 (State.enter_return_liveHi hb) r h8 h12
    · rw [State.loadStatus_r13 _ _ hback, hsp]
    · rw [State.loadStatus_r14 _ _ hback, hsp]
  · rw [State.loadStatus_spsr _ _ hback, hsaved (Mode.bank_ne_usr hm)]
    rfl

/-- In the handler's own bank the way back moves nothing, and r14 has been lost (60 R436). -/
theorem State.enter_return_same {s : State} {e : Exc} (hb : s.cpsr.mode.bank = e.mode.bank) {r : Reg} (h14 : r ≠ 14)
    (h15 : r ≠ 15) : ((s.enter e).loadStatus s.cpsr).reg r = s.reg r := by
  have hback : (s.enter e).cpsr.mode.bank = s.cpsr.mode.bank := by rw [s.enter_mode, hb]
  have hentry : (s.enter e).reg r = s.reg r := by
    rw [s.enter_reg e h14 h15, State.loadStatus_same s (s.handlerStatus e) hb]
    rfl
  rw [State.loadStatus_same _ _ hback]
  exact hentry

/-- Settles O13: the SPSR is the old status word, and the way back to its mode loads what the entry saved. -/
theorem entryThenReturn : Obligations.EntryThenReturn := by
  intro s e he
  obtain ⟨-, -, -, -, -, -, -, -, -, -, hspsr, -⟩ := exceptionEntry s e
  refine ⟨?_, State.loadStatus_cpsr _ _, fun r h15 h14 => ?_, fun hb => (State.enter_return_other hb).2⟩
  · rw [hspsr he, Status.toStatus_toSaved]
  · by_cases hb : s.cpsr.mode.bank = e.mode.bank
    · exact State.enter_return_same hb (h14 hb) h15
    · exact (State.enter_return_other hb).1 r h15

end Sys2Proof.Machine
end

section
/-! PROOF. Entering Halt and Stop, waking, and what does not wake (60 R445 to R452). -/

namespace Sys2Proof.Machine

/-! ## Waking -/

/-- The wake condition of a sleeping machine (60 R451). -/
def Devices.Wakes (p : Params) (d : Devices) : Prop :=
  (p.wakeRequiresIme = true → d.master = true) ∧
    (d.power = .halt ∧ d.enabled &&& d.pending ≠ 0 ∨
      d.power = .stop ∧ d.enabled &&& d.pending &&& p.stopWakeMask ≠ 0)

/-- `wake_check()` goes to Run where the wake condition holds, and changes nothing elsewhere (60 R451). -/
theorem Devices.wakeCheck_cases (p : Params) (d : Devices) :
    (d.Wakes p ∧ Devices.wakeCheck p d = { d with power := .run }) ∨ (¬d.Wakes p ∧ Devices.wakeCheck p d = d) := by
  have hline : (!p.wakeRequiresIme || d.master) = true ↔ (p.wakeRequiresIme = true → d.master = true) := by
    cases p.wakeRequiresIme <;> simp
  cases hw : d.power with
  | run => exact .inr ⟨by simp [Devices.Wakes, hw], by simp [Devices.wakeCheck, hw]⟩
  | halt =>
    have hwakes : ((!p.wakeRequiresIme || d.master) && d.anyPending) = true ↔ d.Wakes p := by
      simp [Devices.Wakes, hline, hw, Devices.anyPending]
    simp only [Devices.wakeCheck, hw]
    split
    · next h => exact .inl ⟨hwakes.1 h, rfl⟩
    · next h => exact .inr ⟨h ∘ hwakes.2, rfl⟩
  | stop =>
    have hwakes : ((!p.wakeRequiresIme || d.master) && d.enabled &&& d.pending &&& p.stopWakeMask != 0) = true ↔
        d.Wakes p := by
      simp [Devices.Wakes, hline, hw]
    simp only [Devices.wakeCheck, hw]
    split
    · next h => exact .inl ⟨hwakes.1 h, rfl⟩
    · next h => exact .inr ⟨h ∘ hwakes.2, rfl⟩

theorem Devices.wakeCheck_wakes {p : Params} {d : Devices} (h : d.Wakes p) : (Devices.wakeCheck p d).power = .run := by
  obtain ⟨-, hw⟩ | ⟨hn, -⟩ := Devices.wakeCheck_cases p d
  · rw [hw]
  · exact absurd h hn

theorem Devices.wakeCheck_sleeps {p : Params} {d : Devices} (h : ¬d.Wakes p) :
    (Devices.wakeCheck p d).power = d.power := by
  obtain ⟨hw, -⟩ | ⟨-, hs⟩ := Devices.wakeCheck_cases p d
  · exact absurd hw h
  · rw [hs]

/-! ## A source that wakes -/

/-- The machine is awake or would wake for the source, once it is enabled and pending (60 R451, R452). -/
def Devices.WakesFor (p : Params) (source : Nat) (d : Devices) : Prop :=
  (p.wakeRequiresIme = true → d.master = true) ∧
    (d.power = .run ∨ d.power = .halt ∨ d.power = .stop ∧ p.stopWakeMask.getLsbD source = true)

theorem Devices.WakesFor.wakeCheck {p : Params} {source : Nat} {d : Devices} (h : d.WakesFor p source) :
    (Devices.wakeCheck p d).WakesFor p source := by
  obtain ⟨-, hw⟩ | ⟨-, hs⟩ := Devices.wakeCheck_cases p d
  · rw [hw]
    exact ⟨h.1, .inl rfl⟩
  · rw [hs]
    exact h

theorem Devices.wakeCheck_enabled (p : Params) (d : Devices) : (Devices.wakeCheck p d).enabled = d.enabled := by
  obtain ⟨w, hw⟩ := Devices.wakeCheck_eq p d
  rw [hw]

theorem Devices.wakeCheck_pending (p : Params) (d : Devices) : (Devices.wakeCheck p d).pending = d.pending := by
  obtain ⟨w, hw⟩ := Devices.wakeCheck_eq p d
  rw [hw]

theorem ne_zero_of_getLsbD {w i : Nat} {x : BitVec w} (h : x.getLsbD i = true) : x ≠ 0 := by
  rintro rfl
  simp at h

/-- Once the source is enabled and pending, the machine is in Run (60 R451). -/
theorem Devices.WakesFor.awake {p : Params} {source : Nat} {d : Devices} (h : d.WakesFor p source)
    (he : d.enabled.getLsbD source = true) (hp : d.pending.getLsbD source = true) :
    (Devices.wakeCheck p d).power = .run := by
  have hboth : (d.enabled &&& d.pending).getLsbD source = true := by rw [BitVec.getLsbD_and, he, hp]; rfl
  obtain ⟨hm, hrun | hhalt | ⟨hstop, hmask⟩⟩ := h
  · rw [Devices.wakeCheck, hrun]
    exact hrun
  · exact Devices.wakeCheck_wakes ⟨hm, .inl ⟨hhalt, ne_zero_of_getLsbD hboth⟩⟩
  · refine Devices.wakeCheck_wakes ⟨hm, .inr ⟨hstop, ne_zero_of_getLsbD (i := source) ?_⟩⟩
    rw [BitVec.getLsbD_and, hboth, hmask]
    rfl

theorem getLsbD_raised (pending : BitVec 14) (source : Fin 14) :
    (pending ||| BitVec.twoPow 14 source.val).getLsbD source.val = true := by
  simp [source.isLt]

/-- A whole store to IE (60 R447). -/
theorem Devices.storeEnable_whole (p : Params) (v : Half) (d : Devices) :
    Devices.storeEnable p 0xFFFF v d = Devices.wakeCheck p { d with enabled := v.setWidth 14 } := by
  rw [Devices.storeEnable, lane_both]

theorem getLsbD_enabled {v : Half} {source : Fin 14} (h : v.getLsbD source.val = true) :
    (v.setWidth 14).getLsbD source.val = true := by
  rw [BitVec.getLsbD_setWidth, h, decide_eq_true source.isLt]
  rfl

/-! ## A source that does not wake -/

/-- A source that is not among the bits looked at adds nothing to them. -/
theorem and_raise {x y : BitVec 14} {source : Nat} (h : x.getLsbD source = false) :
    x &&& (y ||| BitVec.twoPow 14 source) = x &&& y := by
  rw [BitVec.and_or_distrib_left, BitVec.and_twoPow, h]
  exact BitVec.or_zero

theorem and_raise_masked {x y m : BitVec 14} {source : Nat} (h : x.getLsbD source = false ∨ m.getLsbD source = false) :
    x &&& (y ||| BitVec.twoPow 14 source) &&& m = x &&& y &&& m := by
  have hmasked : (x &&& m).getLsbD source = false := by
    rw [BitVec.getLsbD_and]
    obtain h | h := h <;> simp [h]
  calc x &&& (y ||| BitVec.twoPow 14 source) &&& m = (x &&& m) &&& (y ||| BitVec.twoPow 14 source) := by
        rw [BitVec.and_assoc, BitVec.and_comm _ m, BitVec.and_assoc]
    _ = (x &&& m) &&& y := and_raise hmasked
    _ = x &&& y &&& m := by rw [BitVec.and_assoc, BitVec.and_comm m, BitVec.and_assoc]

theorem Devices.anyPending_iff (d : Devices) : d.anyPending = true ↔ d.enabled &&& d.pending ≠ 0 := by
  simp [Devices.anyPending]

/-- Settles O57: each call ends in `wake_check()`, so the machine wakes exactly where its call leaves the wake condition
true. -/
theorem haltAndWake : Obligations.HaltAndWake := by
  intro p d v source mask
  refine ⟨fun hp => ?_, fun hp => ?_, fun hw hm hmask => ?wakes, fun hw hp => ?_, fun hw hp => ?_,
    fun hw hr hm => ?_, fun hw hp he => ?_, fun hw hp he => ?_⟩
  · rw [Devices.haltControl, if_neg fun h => d.anyPending_iff.1 h hp]
  · exact if_pos (d.anyPending_iff.2 hp)
  case wakes =>
    have hd : d.WakesFor p source.val := ⟨hm, .inr hw⟩
    have he := getLsbD_enabled hmask
    constructor
    · rw [Devices.storeEnable_whole]
      have hstored : Devices.WakesFor p source.val (Devices.wakeCheck p { d with enabled := mask.setWidth 14 }) :=
        Devices.WakesFor.wakeCheck hd
      refine Devices.WakesFor.awake (source := source.val) hstored ?_ (getLsbD_raised _ source)
      exact (congrArg (BitVec.getLsbD · source.val) (Devices.wakeCheck_enabled p _)).trans he
    · rw [Devices.storeEnable_whole]
      have hraised : (Devices.raise p source.val d).WakesFor p source.val := Devices.WakesFor.wakeCheck hd
      refine Devices.WakesFor.awake (source := source.val) hraised he ?_
      exact (congrArg (BitVec.getLsbD · source.val) (Devices.wakeCheck_pending p _)).trans (getLsbD_raised _ source)
  · exact Devices.wakeCheck_wakes ⟨fun _ => rfl, .inl ⟨hw, hp⟩⟩
  · exact Devices.wakeCheck_wakes ⟨fun _ => rfl, .inr ⟨hw, hp⟩⟩
  · have hasleep (d' : Devices) (h : d'.master = false) : ¬d'.Wakes p := fun ⟨h', _⟩ => by
      rw [h' hr] at h
      cases h
    exact ⟨Devices.wakeCheck_sleeps (hasleep _ hm), Devices.wakeCheck_sleeps (hasleep _ hm)⟩
  · refine (Devices.wakeCheck_sleeps ?_).trans hw
    rintro ⟨-, ⟨-, h⟩ | ⟨h, -⟩⟩
    · exact h ((and_raise he).trans hp)
    · cases hw.symm.trans h
  · refine (Devices.wakeCheck_sleeps ?_).trans hw
    rintro ⟨-, ⟨h, -⟩ | ⟨-, h⟩⟩
    · cases hw.symm.trans h
    · exact h ((and_raise_masked he).trans hp)

end Sys2Proof.Machine
end

section
/-! PROOF. What an overflow does to its own channel and to the cascaded next one, and how often timer 0 alone overflows
(60 R488 to R493). -/

namespace Sys2Proof.Machine

/-! ## The chain of overflows, channel by channel -/

/-- Channel `t` reloaded by its overflow, with its interrupt and its notice (60 R491, R492). -/
def Devices.overflowed (p : Params) (t : Fin 4) (at' : Nat) (d : Devices) : Devices :=
  Devices.announce p t (d.setTimer t ((d.timers[t]).reloaded p t at'))

theorem Devices.overflowed_timers (p : Params) (t u : Fin 4) (at' : Nat) (d : Devices) :
    (d.overflowed p t at').timers[u] = if u = t then (d.timers[t]).reloaded p t at' else d.timers[u] := by
  obtain ⟨ht, -⟩ := Devices.announce_frame p t (d.setTimer t ((d.timers[t]).reloaded p t at'))
  rw [Devices.overflowed, ht, Devices.setTimer_timers]

/-- Channel `u` counts one overflow of the channel before it (60 R493). -/
def Devices.counted (u : Fin 4) (d : Devices) : Devices :=
  d.setTimer u { d.timers[u] with counter := (d.timers[u]).counter + 1 }

theorem Devices.counted_timers (u v : Fin 4) (d : Devices) :
    (d.counted u).timers[v] =
      if v = u then { d.timers[u] with counter := (d.timers[u]).counter + 1 } else d.timers[v] :=
  d.setTimer_timers u v _

/-- An overflow reloads its channel; a cascaded next channel counts, and overflows in its turn where it wraps. -/
theorem overflowChain_cons (p : Params) (at' : Nat) (t u : Fin 4) (rest : List (Fin 4)) (d : Devices) :
    overflowChain p at' (t :: u :: rest) d =
      if (d.overflowed p t at').timers[u].cascades then
        if (d.overflowed p t at').timers[u].counter + 1 = 0 then
          overflowChain p at' (u :: rest) ((d.overflowed p t at').counted u)
        else (d.overflowed p t at').counted u
      else d.overflowed p t at' := rfl

/-- A chain of overflows leaves the channels that are not in it alone. -/
theorem overflowChain_timers_of_not_mem {p : Params} {at' : Nat} {l : List (Fin 4)} {v : Fin 4} (hv : v ∉ l)
    (d : Devices) : (overflowChain p at' l d).timers[v] = d.timers[v] := by
  induction l generalizing d with
  | nil => rfl
  | cons t rest ih =>
    have ht : v ≠ t := List.ne_of_not_mem_cons hv
    have hfirst : (d.overflowed p t at').timers[v] = d.timers[v] := by rw [Devices.overflowed_timers, if_neg ht]
    cases rest with
    | nil => exact hfirst
    | cons u rest =>
      have hrest : v ∉ u :: rest := List.not_mem_of_not_mem_cons hv
      have hcounted : ((d.overflowed p t at').counted u).timers[v] = d.timers[v] := by
        rw [Devices.counted_timers, if_neg (List.ne_of_not_mem_cons hrest), hfirst]
      rw [overflowChain_cons]
      split
      · split
        · exact (ih hrest _).trans hcounted
        · exact hcounted
      · exact hfirst

/-- The first channel of a chain is reloaded, and nothing after it in the chain changes it (60 R491). -/
theorem overflowChain_timers_head {p : Params} {at' : Nat} {t : Fin 4} {rest : List (Fin 4)} (ht : t ∉ rest)
    (d : Devices) : (overflowChain p at' (t :: rest) d).timers[t] = (d.timers[t]).reloaded p t at' := by
  have hfirst : (d.overflowed p t at').timers[t] = (d.timers[t]).reloaded p t at' := by
    rw [Devices.overflowed_timers, if_pos rfl]
  cases rest with
  | nil => exact hfirst
  | cons u rest =>
    have hcounted : ((d.overflowed p t at').counted u).timers[t] = (d.timers[t]).reloaded p t at' := by
      rw [Devices.counted_timers, if_neg (List.ne_of_not_mem_cons ht), hfirst]
    rw [overflowChain_cons]
    split
    · split
      · exact (overflowChain_timers_of_not_mem ht _).trans hcounted
      · exact hcounted
    · exact hfirst

theorem TimerChannel.cascades_iff (ch : TimerChannel) :
    ch.cascades = true ↔ ch.control.start = true ∧ ch.control.cascade = true := Bool.and_eq_true_iff

theorem channels_drop_nodup (t : Fin 4) : (channels.drop t.val).Nodup := by fin_cases t <;> decide

/-- Settles O60: the overflowing channel is reloaded, and what the next one does is the chain's next step. -/
theorem cascadeCountsOverflows : Obligations.CascadeCountsOverflows := by
  intro p d t u at' hu
  have hdrop : channels.drop t.val = t :: u :: channels.drop (u.val + 1) := by
    rw [(channels_drop t).1, ← hu, (channels_drop u).1]
  have hnodup := channels_drop_nodup t
  rw [hdrop, List.nodup_cons] at hnodup
  obtain ⟨ht, hrest⟩ := hnodup
  have hne : u ≠ t := (List.ne_of_not_mem_cons ht).symm
  have hnext : (d.overflowed p t at').timers[u] = d.timers[u] := by rw [Devices.overflowed_timers, if_neg hne]
  have hcounted : ((d.overflowed p t at').counted u).timers[u] =
      { d.timers[u] with counter := (d.timers[u]).counter + 1 } := by
    rw [Devices.counted_timers, if_pos rfl, hnext]
  rw [Devices.overflow, hdrop]
  refine ⟨by rw [overflowChain_timers_head ht]; rfl, fun hs hc hn => ?_, fun hs hc hw => ?_, fun hn => ?_⟩
  all_goals rw [overflowChain_cons, hnext]
  · have hwrap : (d.timers[u]).counter + 1 ≠ 0 := fun h => hn (by bv_omega)
    rw [if_pos ((TimerChannel.cascades_iff _).2 ⟨hs, hc⟩), if_neg hwrap, hcounted]
  · rw [if_pos ((TimerChannel.cascades_iff _).2 ⟨hs, hc⟩), if_pos (by rw [hw]; rfl),
      overflowChain_timers_head (List.nodup_cons.1 hrest).1, hcounted]
    rfl
  · rw [if_neg fun h => hn ((TimerChannel.cascades_iff _).1 h), hnext]

/-! ## Timer 0 alone -/

/-- Timer 0 alone is started, at one cycle per tick and from reload 0, and overflows next at cycle `o`. -/
structure Devices.Alone (p : Params) (o : Nat) (d : Devices) : Prop where
  control : (d.timers[0]).control = TimerControl.ofWord 0x0080
  cycles : (TimerControl.ofWord 0x0080).cycles p = 1
  reload : (d.timers[0]).reload = 0
  due : (d.timers[0]).overflowAt = some o
  others : ∀ t : Fin 4, t ≠ 0 → (d.timers[t]).control.start = false

section
variable {p : Params} {o : Nat} {d : Devices} (h : d.Alone p o)
include h

theorem Devices.Alone.dueAt : d.dueAt = fun t => if t = 0 then some o else none := by
  funext t
  by_cases ht : t = 0
  · subst ht
    have hc : (d.timers[(0 : Fin 4)]).control = TimerControl.ofWord 0x0080 := h.control
    rw [Devices.dueAt, hc]
    exact h.due
  · rw [Devices.dueAt, h.others t ht, if_neg ht]
    rfl

/-- The next overflow is timer 0's (60 R490). -/
theorem Devices.Alone.nextDue : d.nextDue = some (0, o) := by
  rw [Devices.nextDue_eq, h.dueAt]
  rfl

theorem Devices.Alone.overflowBound (target : Nat) : d.overflowBound target = target + 1 - o := by
  rw [Devices.overflowBound, h.dueAt]
  rfl

theorem Devices.Alone.runOverflows_none {target : Nat} (ho : target < o) (n : Nat) : runOverflows p target n d = d := by
  cases n with
  | zero => rfl
  | succ n => rw [runOverflows, h.nextDue]; exact if_neg (Nat.not_le_of_lt ho)

/-- The live counter counts up to the overflow (60 R488). -/
theorem Devices.Alone.liveCounter (now : Nat) :
    liveCounter p now 0 d.timers[0] = BitVec.ofNat 16 (0x10000 - (o - now)) := by
  have hrun : ((TimerControl.ofWord 0x0080).start && freeRunning 0 (TimerControl.ofWord 0x0080)) = true := rfl
  rw [Machine.liveCounter, h.control, h.due, hrun]
  simp only [ticksUntil, h.cycles, Nat.sub_self, Nat.add_zero, Nat.div_one]

/-- The overflow reloads timer 0 for the next one, tells the audio mixer, and reaches no other timer (60 R491, R492). -/
theorem Devices.Alone.overflow :
    (Devices.overflow p 0 o d).Alone p (o + 65536) ∧ (Devices.overflow p 0 o d).notices = d.notices ++ [0] := by
  have hirq : ((d.setTimer 0 ((d.timers[(0 : Fin 4)]).reloaded p 0 o)).timers[(0 : Fin 4)]).control.irq = false := by
    rw [Devices.setTimer_timers, if_pos rfl]
    exact congrArg TimerControl.irq h.control
  have hnotices : (d.overflowed p 0 o).notices = d.notices ++ [0] := by
    rw [Devices.overflowed, Devices.announce, hirq]
    rfl
  have hnext : (d.overflowed p 0 o).timers[(1 : Fin 4)].cascades = false := by
    rw [Devices.overflowed_timers, if_neg (by decide), TimerChannel.cascades, h.others 1 (by decide)]
    rfl
  have hend : Devices.overflow p 0 o d = d.overflowed p 0 o := by
    rw [Devices.overflow, show channels.drop (0 : Fin 4).val = [0, 1, 2, 3] from rfl, overflowChain_cons, hnext]
    exact if_neg nofun
  have hzero : (d.overflowed p 0 o).timers[0] = (d.timers[0]).reloaded p 0 o := d.overflowed_timers p 0 0 o
  have hcycle : overflowCycle p o (d.timers[0]).control (d.timers[0]).reload = o + 65536 := by
    rw [overflowCycle, h.control, h.cycles, h.reload]
    rfl
  rw [hend]
  refine ⟨⟨?_, h.cycles, ?_, ?_, fun t ht => ?_⟩, hnotices⟩
  · rw [hzero]; exact h.control
  · rw [hzero]; exact h.reload
  · rw [hzero, ← hcycle]
    rfl
  · rw [Devices.overflowed_timers, if_neg ht]
    exact h.others t ht

/-- A step past exactly one overflow performs it and no other (60 R490). -/
theorem Devices.Alone.runOverflows_one {target : Nat} (ho : o ≤ target) (ho' : target < o + 65536) :
    runOverflows p target (d.overflowBound target) d = Devices.overflow p 0 o d := by
  obtain ⟨hnext, -⟩ := h.overflow
  rw [h.overflowBound, Nat.succ_sub ho, runOverflows, h.nextDue]
  exact (if_pos ho).trans (hnext.runOverflows_none ho' _)

end

/-- Starting timer 0 from reload 0 at one cycle per tick makes it overflow after 65536 cycles (60 R485, R489). -/
theorem Devices.storeTimerControl_alone {p : Params} {d : Devices} (hp : p.prescaler[0] = 1)
    (hs : (d.timers[0]).control.start = false) (hr : (d.timers[0]).reload = 0)
    (ho : ∀ t : Fin 4, t ≠ 0 → (d.timers[t]).control.start = false) :
    (Devices.storeTimerControl p 0 0xFFFF 0x0080 d).Alone p (d.now + 65536) := by
  have hstore : Devices.storeTimerControl p 0 0xFFFF 0x0080 d =
      d.setTimer 0 ((d.timers[(0 : Fin 4)]).withControl p d.now 0 (TimerControl.ofWord 0x0080)) := by
    simp only [Devices.storeTimerControl, lane_both]
    rfl
  have hzero := d.setTimer_timers 0 0 ((d.timers[(0 : Fin 4)]).withControl p d.now 0 (TimerControl.ofWord 0x0080))
  have hcycles : (TimerControl.ofWord 0x0080).cycles p = 1 := hp
  rw [hstore]
  refine ⟨congrArg TimerChannel.control hzero, hcycles, (congrArg TimerChannel.reload hzero).trans hr,
    (congrArg TimerChannel.overflowAt hzero).trans ?_, fun t ht => ?_⟩
  · have hs' : (d.timers[(0 : Fin 4)]).control.start = false := hs
    have hr' : (d.timers[(0 : Fin 4)]).reload = 0 := hr
    simp only [if_true, TimerChannel.withControl, hs', hr', overflowCycle, hcycles]
    rfl
  · rw [Devices.setTimer_timers, if_neg ht]
    exact ho t ht

/-- Settles O59: until the first overflow nothing happens, and the second one is beyond the step. -/
theorem timerCounts65536 : Obligations.TimerCounts65536 := by
  rintro p d d' elapsed hp hs hr ho hn rfl
  have halone := Devices.storeTimerControl_alone hp hs hr ho
  generalize hd : Devices.storeTimerControl p 0 0xFFFF 0x0080 d = e at halone
  have hnow : e.now = d.now := hd ▸ rfl
  have hnotices : e.notices = [] := hd ▸ hn
  refine ⟨fun hlt => ?_, fun hge hlt => ?_, congrArg (· + elapsed) hnow⟩
  · have hrun : runOverflows p (e.now + elapsed) (e.overflowBound (e.now + elapsed)) e = e :=
      halone.runOverflows_none (by omega) _
    rw [Devices.timerStep, hrun]
    refine ⟨hnotices, (halone.liveCounter _).trans (congrArg _ ?_)⟩
    dsimp only
    omega
  · have hrun := halone.runOverflows_one (target := e.now + elapsed) (by omega) (by omega)
    obtain ⟨hnext, hsent⟩ := halone.overflow
    rw [Devices.timerStep, hrun]
    refine ⟨hsent.trans (by rw [hnotices]; rfl), (hnext.liveCounter _).trans (congrArg _ ?_)⟩
    dsimp only
    omega

end Sys2Proof.Machine
end

section
/-! PROOF. The control store of a DMA channel and its triggers (60 R472 to R474). -/

namespace Sys2Proof.Machine

/-! ## The control word -/

theorem AddrMode.bits_ofBits (b : BitVec 2) : (AddrMode.ofBits b).bits = b := by revert b; decide

theorem Trigger.bits_ofBits (b : BitVec 2) : (Trigger.ofBits b).bits = b := by revert b; decide

/-- A load gives back the state bits of the word stored (10_state R51). -/
theorem DmaControl.toWord_ofWord (v : Half) : (DmaControl.ofWord v).toWord = v &&& 0xFFE0 := by
  refine BitVec.eq_of_getLsbD_eq fun i hi => ?_
  simp only [DmaControl.toWord, DmaControl.ofWord, AddrMode.bits_ofBits, Trigger.bits_ofBits, BitVec.getLsbD_append,
    BitVec.getLsbD_and]
  interval_cases i <;> simp

/-- Code 0 is the immediate trigger (10_state R51). -/
theorem Trigger.ofBits_immediate (b : BitVec 2) : (Trigger.ofBits b == .immediate) = (b == 0) := by revert b; decide

/-! ## The control store -/

/-- A channel after its control word becomes `ctrl`: a rising enable latches the working copies, and the channel is
active where it was, or is triggered at once, and stays enabled (60 R472, R473). -/
theorem DmaChannel.withControl_eq (p : Params) (ch : Fin 4) (c : DmaChannel) (ctrl : DmaControl) :
    c.withControl p ch ctrl =
      { c with
        ctrl := ctrl
        src := if !c.ctrl.enable && ctrl.enable then c.sad else c.src
        dst := if !c.ctrl.enable && ctrl.enable then c.dad else c.dst
        remaining := if !c.ctrl.enable && ctrl.enable then dmaCount p ch c else c.remaining
        active := ctrl.enable && (c.active || ctrl.trigger == .immediate) } := by
  unfold DmaChannel.withControl DmaChannel.evaluateTrigger
  cases he : ctrl.enable with
  | false => simp [he]
  | true => cases c.ctrl.enable <;> cases ht : ctrl.trigger == .immediate <;> simp [he, ht, dmaCount, DmaChannel.count]

theorem Devices.storeDmaControl_channel (p : Params) (ch : Fin 4) (v : Half) (d : Devices) :
    (d.storeDmaControl p ch 0xFFFF v).dma[ch] = (d.dma[ch]).withControl p ch (DmaControl.ofWord v) := by
  simp only [Devices.storeDmaControl, lane_both, Devices.setDma_dma, if_true]

/-- What a whole store to CTRL makes of its channel (60 R472, R473). -/
theorem Devices.storeDmaControl_result (p : Params) (d : Devices) (ch : Fin 4) (v : Half) (c c' : DmaChannel)
    (hc : c = d.dma[ch]) (hc' : c' = (d.storeDmaControl p ch 0xFFFF v).dma[ch]) :
    c'.ctrl.toWord = v &&& 0xFFE0 ∧ c'.sad = c.sad ∧ c'.dad = c.dad ∧ c'.cnt = c.cnt ∧
      (c.ctrl.enable = false → v.getLsbD 15 = true →
        c'.src = c.sad ∧ c'.dst = c.dad ∧ c'.remaining = dmaCount p ch c) ∧
      (c.ctrl.enable = true ∨ v.getLsbD 15 = false →
        c'.src = c.src ∧ c'.dst = c.dst ∧ c'.remaining = c.remaining) ∧
      c'.active = (v.getLsbD 15 && (c.active || v.extractLsb' 12 2 == 0)) := by
  rw [Devices.storeDmaControl_channel, ← hc, DmaChannel.withControl_eq] at hc'
  subst hc'
  have henable : (DmaControl.ofWord v).enable = v.getLsbD 15 := rfl
  refine ⟨DmaControl.toWord_ofWord v, rfl, rfl, rfl, fun he hv => ?_, fun h => ?_, ?_⟩
  · simp only [henable, he, hv]
    exact ⟨rfl, rfl, rfl⟩
  · have hno : (!c.ctrl.enable && v.getLsbD 15) = false := by
      obtain h | h := h
      · rw [h]; rfl
      · rw [h, Bool.and_false]
    simp only [henable, hno]
    exact ⟨rfl, rfl, rfl⟩
  · rw [← Trigger.ofBits_immediate]
    rfl

/-! ## Triggers -/

section
variable {c : DmaChannel} {P Q : Prop} [Decidable P] [Decidable Q]

theorem DmaChannel.armedIf_ctrl : (c.armedIf P).ctrl = c.ctrl := by
  unfold DmaChannel.armedIf
  split <;> rfl

theorem DmaChannel.armedIf_armedIf [Decidable (P ∨ Q)] : (c.armedIf P).armedIf Q = c.armedIf (P ∨ Q) := by
  unfold DmaChannel.armedIf
  by_cases he : c.ctrl.enable = true <;> by_cases hp : P <;> by_cases hq : Q <;> simp [he, hp, hq]

theorem DmaChannel.armedIf_congr (h : P ↔ Q) : c.armedIf P = c.armedIf Q := by
  simp only [DmaChannel.armedIf, h]

theorem DmaChannel.armedIf_false (h : ¬P) : c.armedIf P = c := if_neg fun ⟨_, hp⟩ => h hp
end

/-- A signal arms the channel it is for where its trigger matches (60 R474). -/
theorem Devices.arm_dma (d : Devices) (t : Trigger) (ch k : Fin 4) :
    (d.arm t ch).dma[k] = (d.dma[k]).armedIf (k = ch ∧ (d.dma[k]).ctrl.trigger = t) := by
  unfold Devices.arm
  by_cases hk : k = ch
  · subst hk
    split
    · next h =>
      rw [Devices.setDma_dma, if_pos rfl]
      simp only [Bool.and_eq_true, beq_iff_eq] at h
      exact (if_pos ⟨h.1, rfl, h.2⟩).symm
    · next h =>
      simp only [Bool.and_eq_true, beq_iff_eq] at h
      exact (if_neg fun ⟨he, _, ht⟩ => h ⟨he, ht⟩).symm
  · rw [DmaChannel.armedIf_false fun h => hk h.1]
    split
    · rw [Devices.setDma_dma, if_neg hk]
    · rfl

/-- A signal to every channel (60 R474). -/
theorem Devices.armAll_dma (d : Devices) (t : Trigger) (k : Fin 4) :
    (d.armAll t).dma[k] = (d.dma[k]).armedIf ((d.dma[k]).ctrl.trigger = t) := by
  have hall : d.armAll t = (((d.arm t 0).arm t 1).arm t 2).arm t 3 := rfl
  simp only [hall, Devices.arm_dma, DmaChannel.armedIf_ctrl, DmaChannel.armedIf_armedIf]
  refine DmaChannel.armedIf_congr ?_
  fin_cases k <;> simp

theorem Devices.signalHblank_dma (p : Params) (d : Devices) (line : Nat) (k : Fin 4) :
    ((d.signalHblank p line).dma[k]) = (d.dma[k]).armedIf (d.dma[k].ctrl.trigger = .hblank ∨
      k = 3 ∧ d.dma[k].ctrl.trigger = .special ∧ p.firstVisibleLine ≤ line ∧ line ≤ p.lastVisibleLine) := by
  simp only [Devices.signalHblank]
  split
  · next hv =>
    rw [Devices.arm_dma, Devices.armAll_dma, DmaChannel.armedIf_ctrl, DmaChannel.armedIf_armedIf]
    exact DmaChannel.armedIf_congr (by simp only [hv, and_true])
  · next hv =>
    rw [Devices.armAll_dma]
    exact DmaChannel.armedIf_congr ⟨.inl, fun h => h.resolve_right fun ⟨_, _, h⟩ => hv h⟩

theorem Devices.fifoRefresh_dma (d : Devices) (fifo k : Fin 4) :
    ((d.fifoRefresh fifo).dma[k]) =
      (d.dma[k]).armedIf (k = fifo ∧ (k = 1 ∨ k = 2) ∧ d.dma[k].ctrl.trigger = .special) := by
  unfold Devices.fifoRefresh
  split
  · next hf =>
    rw [Devices.arm_dma]
    exact DmaChannel.armedIf_congr ⟨fun ⟨hk, ht⟩ => ⟨hk, hk ▸ hf, ht⟩, fun ⟨hk, _, ht⟩ => ⟨hk, ht⟩⟩
  · next hf => exact (DmaChannel.armedIf_false fun ⟨hk, hk', _⟩ => hf (hk ▸ hk')).symm

end Sys2Proof.Machine
end

section
/-! PROOF. A DMA transfer from memory to memory: its units one after the other, and its completion (60 R475 to R478,
R481). -/

namespace Sys2Proof.Machine

/-! ## Copied units -/

/-- `n` units of `u` bytes are copied, the `k`-th from cell `sc k` to cell `dc k`: where no later unit has the same
place, the place holds the source's bytes of before, and every byte outside the places is kept. -/
def Copied (u n : Nat) (sc dc : Nat → Nat) (m m' : List Host.Cell) : Prop :=
  (∀ k b, k < n → b < u → (∀ j, k < j → j < n → dc j ≠ dc k) → Memory.read m' (dc k + b) = Memory.read m (sc k + b)) ∧
    ∀ x, (∀ k, k < n → x < dc k ∨ dc k + u ≤ x) → Memory.read m' x = Memory.read m x

theorem Copied.zero (u : Nat) (sc dc : Nat → Nat) (m : List Host.Cell) : Copied u 0 sc dc m m :=
  ⟨fun _ _ hk => absurd hk (Nat.not_lt_zero _), fun _ _ => rfl⟩

/-- Bytes of different places of one unit size are different (20_memory R88). -/
theorem units_apart {u x y b : Nat} (hx : x % u = 0) (hy : y % u = 0) (hne : x ≠ y) (hb : b < u) :
    y + b < x ∨ x + u ≤ y + b := by
  have hx' := Nat.div_add_mod x u
  have hy' := Nat.div_add_mod y u
  obtain hlt | heq | hlt := Nat.lt_trichotomy (y / u) (x / u)
  · have := Nat.mul_le_mul_left u (Nat.succ_le_of_lt hlt)
    rw [Nat.mul_succ] at this
    omega
  · rw [heq] at hy'; omega
  · have := Nat.mul_le_mul_left u (Nat.succ_le_of_lt hlt)
    rw [Nat.mul_succ] at this
    omega

/-- The first unit copied, and then the others, which do not read the first one's place. -/
theorem Copied.cons {u n : Nat} {sc dc : Nat → Nat} {m m1 m' : List Host.Cell} (hs : ∀ k, sc k % u = 0)
    (hd : ∀ k, dc k % u = 0) (hb : ∀ b, b < u → Memory.read m1 (dc 0 + b) = Memory.read m (sc 0 + b))
    (ho : ∀ x, x < dc 0 ∨ dc 0 + u ≤ x → Memory.read m1 x = Memory.read m x)
    (hr : ∀ k, k < n → dc 0 ≠ sc (k + 1))
    (h : Copied u n (fun k => sc (k + 1)) (fun k => dc (k + 1)) m1 m') : Copied u (n + 1) sc dc m m' := by
  obtain ⟨hunits, hother⟩ := h
  refine ⟨fun k b hk hbu hlast => ?_, fun x hx => ?_⟩
  · cases k with
    | zero =>
      rw [hother _ fun j hj => units_apart (hd _) (hd 0) (hlast (j + 1) (by omega) (by omega)) hbu]
      exact hb b hbu
    | succ k =>
      rw [hunits k b (by omega) hbu fun j hkj hj => hlast (j + 1) (by omega) (by omega)]
      exact ho _ (units_apart (hd 0) (hs _) (hr k (by omega)) hbu)
  · rw [hother x fun k hk => hx (k + 1) (by omega)]
    exact ho x (hx 0 (by omega))

/-! ## One unit -/

/-- The bytes of a unit (60 R477). -/
def unitSize (isWord : Bool) : Nat := if isWord then 4 else 2

/-- A unit's place is a whole one (20_memory R88, R90). -/
theorem cellOf_storeAddress_mod (p : Params) (isWord : Bool) (a : Word) :
    cellOf p (storeAddress (unitSize isWord) a) % unitSize isWord = 0 := by
  cases ht : target p (storeAddress (unitSize isWord) a) with
  | node bank off r =>
    have hoff := target_node_off ht
    have hcell := cellIn_mod r off
    have h4 := align4_toNat a
    have h2 := align2_toNat a
    rw [cellOf_node ht]
    cases isWord with
    | true =>
      change off = (align4 a).toNat % 2 ^ 24 at hoff
      change cellIn r off % 4 = 0
      omega
    | false =>
      change off = (align2 a).toNat % 2 ^ 24 at hoff
      change cellIn r off % 2 = 0
      omega
  | absent => simp [cellOf, ht]
  | block b off => simp [cellOf, ht]

theorem Memory.read_write16_at {m : List Host.Cell} (hm : Memory.wf m = true) (c : Nat) (v : Half) {k : Nat}
    (hk : k < 2) : Memory.read (Memory.write16 m c v) (c + k) = v.extractLsb' (8 * k) 8 := by
  rw [Memory.read_write16 hm]
  interval_cases k <;> simp

theorem Memory.extractLsb'_read16 (m : List Host.Cell) (c : Nat) {k : Nat} (hk : k < 2) :
    (Memory.read16 m c).extractLsb' (8 * k) 8 = Memory.read m (c + k) := by
  interval_cases k
  · exact BitVec.extractLsb'_append_eq_right
  · exact BitVec.extractLsb'_append_eq_left

/-- A unit from memory to memory copies its bytes and changes nothing else (60 R475, R477). -/
theorem State.dmaMove_inMemory {s : State} {isWord : Bool} {src dst : Word} (hm : Memory.wf s.mem = true)
    (hr : Readable s.params (storeAddress (unitSize isWord) src))
    (hw : InMemory s.params (storeAddress (unitSize isWord) dst)) :
    ∃ m, s.dmaMove isWord src dst = { s with mem := m } ∧ Memory.wf m = true ∧
      (∀ b, b < unitSize isWord → Memory.read m (cellOf s.params (storeAddress (unitSize isWord) dst) + b) =
        Memory.read s.mem (cellOf s.params (storeAddress (unitSize isWord) src) + b)) ∧
      ∀ x, x < cellOf s.params (storeAddress (unitSize isWord) dst) ∨
        cellOf s.params (storeAddress (unitSize isWord) dst) + unitSize isWord ≤ x →
        Memory.read m x = Memory.read s.mem x := by
  obtain ⟨bank, off, r, ht, -, hs⟩ := hw
  rw [cellOf_node ht]
  cases isWord with
  | true =>
    refine ⟨Memory.write32 s.mem (cellIn r off) (s.dmaWord src), ?_, Memory.wf_write32 hm _ _, fun b hb => ?_,
      fun x hx => Memory.read_write32_outside hm _ hx⟩
    · rw [State.dmaMove, if_pos rfl]
      exact congrArg (Option.getD · s) (State.store32_cells (s.dmaWord src) ht hs)
    · have hload : s.dmaWord src = Memory.read32 s.mem (cellOf s.params (align4 src)) :=
        congrArg (Option.getD · _) (State.load32_readable (a := align4 src) hr)
      rw [Memory.read_write32_at hm _ _ hb, hload, Memory.extractLsb'_read32 _ _ hb]
      rfl
  | false =>
    refine ⟨Memory.write16 s.mem (cellIn r off) (s.dmaHalf src), ?_, Memory.wf_write16 hm _ _, fun b hb => ?_,
      fun x hx => Memory.read_write16_outside hm _ hx⟩
    · exact congrArg (Option.getD · s) (State.store16_cells (s.dmaHalf src) ht hs)
    · have hload : s.dmaHalf src = Memory.read16 s.mem (cellOf s.params (align2 src)) :=
        congrArg (Option.getD · _) (State.load16_readable (a := align2 src) hr)
      rw [Memory.read_write16_at hm _ _ hb, hload, Memory.extractLsb'_read16 _ _ hb]
      rfl

/-- The channel after `k` units: its working addresses moved on (60 R476). -/
def DmaChannel.moved (c : DmaChannel) (k : Nat) : DmaChannel :=
  { c with
    src := c.ctrl.srcMode.at c.src (unitSize c.ctrl.isWord) k
    dst := c.ctrl.dstMode.at c.dst (unitSize c.ctrl.isWord) k }

theorem AddrMode.at_zero (m : AddrMode) (a : Word) (u : Nat) : m.at a u 0 = a := by
  cases m <;> simp [AddrMode.at]

theorem AddrMode.at_one (m : AddrMode) (a : Word) (u : Nat) : m.at a u 1 = m.stepped a (BitVec.ofNat 32 u) := by
  cases m <;> simp [AddrMode.at, AddrMode.stepped]

/-- One unit and then `k` more (60 R476). -/
theorem AddrMode.at_at_one (m : AddrMode) (a : Word) (u k : Nat) : m.at (m.at a u 1) u k = m.at a u (k + 1) := by
  have hsum : BitVec.ofNat 32 ((k + 1) * u) = BitVec.ofNat 32 (1 * u) + BitVec.ofNat 32 (k * u) := by
    rw [Nat.add_comm, Nat.add_mul, BitVec.ofNat_add]
  cases m with
  | increment | reload => simp only [AddrMode.at, hsum, BitVec.add_assoc]
  | decrement => simp only [AddrMode.at, hsum, BitVec.sub_sub]
  | fixed => rfl

theorem DmaControl.unitBytes_eq (c : DmaControl) : c.unitBytes = BitVec.ofNat 32 (unitSize c.isWord) := by
  rw [DmaControl.unitBytes, unitSize]
  cases c.isWord <;> rfl

theorem DmaChannel.moved_zero (c : DmaChannel) : c.moved 0 = c := by
  simp only [DmaChannel.moved, AddrMode.at_zero]

theorem DmaChannel.moved_succ (c : DmaChannel) (k : Nat) : (c.moved 1).moved k = c.moved (k + 1) := by
  simp only [DmaChannel.moved, AddrMode.at_at_one]

/-- Where the `k`-th unit is read and where it is stored, aligned to the unit (60 R477). -/
def DmaChannel.source (c : DmaChannel) (k : Nat) : Word := storeAddress (unitSize c.ctrl.isWord) (c.moved k).src

def DmaChannel.dest (c : DmaChannel) (k : Nat) : Word := storeAddress (unitSize c.ctrl.isWord) (c.moved k).dst

theorem DmaChannel.source_succ (c : DmaChannel) (k : Nat) : (c.moved 1).source k = c.source (k + 1) :=
  congrArg (fun x : DmaChannel => storeAddress (unitSize c.ctrl.isWord) x.src) (c.moved_succ k)

theorem DmaChannel.dest_succ (c : DmaChannel) (k : Nat) : (c.moved 1).dest k = c.dest (k + 1) :=
  congrArg (fun x : DmaChannel => storeAddress (unitSize c.ctrl.isWord) x.dst) (c.moved_succ k)

theorem DmaChannel.source_zero (c : DmaChannel) : c.source 0 = storeAddress (unitSize c.ctrl.isWord) c.src :=
  congrArg (fun x : DmaChannel => storeAddress (unitSize c.ctrl.isWord) x.src) c.moved_zero

theorem DmaChannel.dest_zero (c : DmaChannel) : c.dest 0 = storeAddress (unitSize c.ctrl.isWord) c.dst :=
  congrArg (fun x : DmaChannel => storeAddress (unitSize c.ctrl.isWord) x.dst) c.moved_zero

/-- The units of a channel are in memory, and no unit reads what an earlier one has stored (60 R477). -/
structure DmaChannel.Copies (p : Params) (n : Nat) (c : DmaChannel) : Prop where
  readable : ∀ k, k < n → Readable p (c.source k)
  inMemory : ∀ k, k < n → InMemory p (c.dest k)
  apart : ∀ j k, j < k → k < n → cellOf p (c.dest j) ≠ cellOf p (c.source k)

theorem DmaChannel.Copies.succ {p : Params} {n : Nat} {c : DmaChannel} (h : c.Copies p (n + 1)) :
    (c.moved 1).Copies p n where
  readable k hk := c.source_succ k ▸ h.readable (k + 1) (Nat.succ_lt_succ hk)
  inMemory k hk := c.dest_succ k ▸ h.inMemory (k + 1) (Nat.succ_lt_succ hk)
  apart j k hjk hk := c.source_succ k ▸ c.dest_succ j ▸ h.apart (j + 1) (k + 1) (Nat.succ_lt_succ hjk)
    (Nat.succ_lt_succ hk)

/-! ## All units -/

theorem Devices.setDma_same (d : Devices) (ch : Fin 4) : d.setDma ch d.dma[ch] = d := by
  simp [Devices.setDma]

theorem Devices.setDma_setDma (d : Devices) (ch : Fin 4) (c c' : DmaChannel) :
    (d.setDma ch c).setDma ch c' = d.setDma ch c' := by
  simp [Devices.setDma]

/-- The machine after `n` units of channel `ch`, with what they have made of the memory (60 R477). -/
def State.afterUnits (s : State) (ch : Fin 4) (n : Nat) (m : List Host.Cell) : State :=
  { s with mem := m, dev := s.dev.setDma ch ((s.dev.dma[ch]).moved n), draws := s.draws + n }

/-- One unit from memory to memory. -/
theorem State.dmaUnit_inMemory {s : State} {ch : Fin 4} (hm : Memory.wf s.mem = true)
    (h : (s.dev.dma[ch]).Copies s.params 1) :
    ∃ m, s.dmaUnit (s.dev.dma[ch]).ctrl ch = s.afterUnits ch 1 m ∧ Memory.wf m = true ∧
      (∀ b, b < unitSize (s.dev.dma[ch]).ctrl.isWord →
        Memory.read m (cellOf s.params ((s.dev.dma[ch]).dest 0) + b) =
          Memory.read s.mem (cellOf s.params ((s.dev.dma[ch]).source 0) + b)) ∧
      ∀ x, x < cellOf s.params ((s.dev.dma[ch]).dest 0) ∨
        cellOf s.params ((s.dev.dma[ch]).dest 0) + unitSize (s.dev.dma[ch]).ctrl.isWord ≤ x →
        Memory.read m x = Memory.read s.mem x := by
  have hr := h.readable 0 Nat.one_pos
  have hw := h.inMemory 0 Nat.one_pos
  rw [DmaChannel.source_zero] at hr ⊢
  rw [DmaChannel.dest_zero] at hw ⊢
  obtain ⟨m, hmove, hbytes⟩ := State.dmaMove_inMemory hm hr hw
  refine ⟨m, ?_, hbytes⟩
  simp only [State.dmaUnit, hmove, State.setDma, State.afterUnits, DmaChannel.moved, AddrMode.at_one,
    DmaControl.unitBytes_eq]

theorem State.afterUnits_channel (s : State) (ch : Fin 4) (n : Nat) (m : List Host.Cell) :
    (s.afterUnits ch n m).dev.dma[ch] = (s.dev.dma[ch]).moved n := by
  rw [State.afterUnits, Devices.setDma_dma, if_pos rfl]

theorem State.afterUnits_succ (s : State) (ch : Fin 4) (n : Nat) (m m' : List Host.Cell) :
    (s.afterUnits ch 1 m).afterUnits ch n m' = s.afterUnits ch (n + 1) m' := by
  rw [State.afterUnits, s.afterUnits_channel, DmaChannel.moved_succ]
  simp only [State.afterUnits, Devices.setDma_setDma, Nat.add_assoc, Nat.add_comm 1 n]

/-- The units of a transfer from memory to memory copy their bytes and move the working addresses (60 R476, R477). -/
theorem State.dmaUnits_inMemory {s : State} {ch : Fin 4} (n : Nat) (hm : Memory.wf s.mem = true)
    (h : (s.dev.dma[ch]).Copies s.params n) :
    ∃ m, State.dmaUnits (s.dev.dma[ch]).ctrl ch n s = s.afterUnits ch n m ∧
      Copied (unitSize (s.dev.dma[ch]).ctrl.isWord) n (fun k => cellOf s.params ((s.dev.dma[ch]).source k))
        (fun k => cellOf s.params ((s.dev.dma[ch]).dest k)) s.mem m := by
  induction n generalizing s with
  | zero =>
    refine ⟨s.mem, ?_, .zero ..⟩
    rw [State.afterUnits, DmaChannel.moved_zero, Devices.setDma_same]
    rfl
  | succ n ih =>
    have hfirst : (s.dev.dma[ch]).Copies s.params 1 :=
      ⟨fun k hk => h.readable k (by omega), fun k hk => h.inMemory k (by omega), fun j k hjk hk => by omega⟩
    obtain ⟨m1, hunit, hm1, hbytes, hother⟩ := State.dmaUnit_inMemory hm hfirst
    have hrest : ((s.afterUnits ch 1 m1).dev.dma[ch]).Copies (s.afterUnits ch 1 m1).params n := by
      rw [State.afterUnits_channel]
      exact h.succ
    obtain ⟨m, hunits, hcopied⟩ := ih (s := s.afterUnits ch 1 m1) hm1 hrest
    rw [State.afterUnits_channel, State.afterUnits_succ] at hunits
    simp only [State.afterUnits_channel, DmaChannel.source_succ, DmaChannel.dest_succ] at hcopied
    refine ⟨m, ?_, Copied.cons (fun k => cellOf_storeAddress_mod ..) (fun k => cellOf_storeAddress_mod ..) hbytes hother
      (fun k hk => h.apart 0 (k + 1) (by omega) (by omega)) hcopied⟩
    rw [State.dmaUnits, hunit]
    exact hunits

/-! ## Completion (60 R478) -/

theorem Devices.complete_dma (p : Params) (ch j : Fin 4) (d : Devices) :
    (d.complete p ch).dma[j] = if j = ch then (d.dma[ch]).completed p ch else d.dma[j] := by
  obtain ⟨-, hraise, -⟩ := Devices.raise_frame p (8 + ch.val) (d.setDma ch ((d.dma[ch]).completed p ch))
  rw [← Devices.setDma_dma]
  unfold Devices.complete
  dsimp only
  split
  · exact congrArg (fun v : Vector DmaChannel 4 => v[j]) hraise
  · rfl

theorem Devices.complete_pending (p : Params) (ch : Fin 4) (d : Devices) :
    (d.complete p ch).pending =
      if (d.dma[ch]).ctrl.irq then d.pending ||| BitVec.twoPow 14 (8 + ch.val) else d.pending := by
  unfold Devices.complete
  dsimp only
  split
  · exact Devices.wakeCheck_pending p _
  · rfl

/-- A channel at completion: inactive, its working source kept, and disabled unless it repeats: then its count, and in
the reload mode its destination, is latched anew (60 R478). -/
theorem DmaChannel.completed_result (p : Params) (ch : Fin 4) (c : DmaChannel) :
    (c.completed p ch).active = false ∧ (c.completed p ch).src = c.src ∧ (c.completed p ch).sad = c.sad ∧
      (c.completed p ch).dad = c.dad ∧ (c.completed p ch).cnt = c.cnt ∧
      (c.ctrl.repeats = false → (c.completed p ch).ctrl = { c.ctrl with enable := false }) ∧
      (c.ctrl.repeats = true →
        (c.completed p ch).ctrl = c.ctrl ∧ (c.completed p ch).remaining = dmaCount p ch c) ∧
      (c.completed p ch).dst = if c.ctrl.repeats = true ∧ c.ctrl.dstMode = .reload then c.dad else c.dst := by
  unfold DmaChannel.completed
  cases hr : c.ctrl.repeats with
  | false => simp
  | true => simp [dmaCount, DmaChannel.count]

/-- The step of a channel from memory to memory: the units, and then the completion (60 R477, R478). -/
theorem State.dmaStep_inMemory {s : State} {ch : Fin 4} {c : DmaChannel} (hc : c = s.dev.dma[ch])
    (hm : Memory.wf s.mem = true) (h : c.Copies s.params c.remaining) :
    ∃ m, s.dmaStep ch =
        { s.afterUnits ch c.remaining m with
          dev := Devices.complete s.params ch (s.dev.setDma ch (c.moved c.remaining)) } ∧
      Copied (unitSize c.ctrl.isWord) c.remaining (fun k => cellOf s.params (c.source k))
        (fun k => cellOf s.params (c.dest k)) s.mem m := by
  subst hc
  obtain ⟨m, hunits, hcopied⟩ := State.dmaUnits_inMemory (s.dev.dma[ch]).remaining hm h
  refine ⟨m, ?_, hcopied⟩
  simp only [State.dmaStep, hunits]
  rfl

/-- A step of a channel from memory to memory: the bytes, the channel, its interrupt, and all that is kept. -/
theorem State.dmaStep_result {s t : State} {ch : Fin 4} {c c' : DmaChannel} (hc : c = s.dev.dma[ch])
    (ht : t = s.dmaStep ch) (hc' : c' = t.dev.dma[ch]) (hm : Memory.wf s.mem = true)
    (h : c.Copies s.params c.remaining) :
    Copied (unitSize c.ctrl.isWord) c.remaining (fun k => cellOf s.params (c.source k))
        (fun k => cellOf s.params (c.dest k)) s.mem t.mem ∧
      c' = (c.moved c.remaining).completed s.params ch ∧
      t.dev.pending = (if c.ctrl.irq then s.dev.pending ||| BitVec.twoPow 14 (8 + ch.val) else s.dev.pending) ∧
      (∀ j, j ≠ ch → t.dev.dma[j] = s.dev.dma[j]) ∧ t.regs = s.regs ∧ t.cpsr = s.cpsr ∧ t.spsr = s.spsr ∧
      t.banks = s.banks := by
  obtain ⟨m, hstep, hcopied⟩ := State.dmaStep_inMemory hc hm h
  have hchannel : (s.dev.setDma ch (c.moved c.remaining)).dma[ch] = c.moved c.remaining := by
    rw [Devices.setDma_dma, if_pos rfl]
  rw [hstep] at ht
  subst ht hc'
  refine ⟨hcopied, ?_, ?_, fun j hj => ?_, rfl, rfl, rfl, rfl⟩
  · rw [Devices.complete_dma, if_pos rfl, hchannel]
  · rw [Devices.complete_pending, hchannel]
    rfl
  · rw [Devices.complete_dma, if_neg hj, Devices.setDma_dma, if_neg hj]

/-! ## The documented transfer (60 R481) -/

theorem Memory.read32_eq_of_bytes {m m' : List Host.Cell} {x y : Nat}
    (h : ∀ b, b < 4 → Memory.read m' (x + b) = Memory.read m (y + b)) : Memory.read32 m' x = Memory.read32 m y := by
  have h0 : Memory.read m' x = Memory.read m y := h 0 (by decide)
  simp only [Memory.read32, h0, h 1 (by decide), h 2 (by decide), h 3 (by decide)]

/-- Two words copied to two places. -/
theorem Copied.two_words {sc dc : Nat → Nat} {m m' : List Host.Cell} (h : Copied 4 2 sc dc m m') (hd : dc 1 ≠ dc 0) :
    Memory.read32 m' (dc 0) = Memory.read32 m (sc 0) ∧ Memory.read32 m' (dc 1) = Memory.read32 m (sc 1) := by
  obtain ⟨hunits, -⟩ := h
  constructor
  · refine Memory.read32_eq_of_bytes fun b hb => hunits 0 b (by decide) hb fun j hj hj2 => ?_
    obtain rfl : j = 1 := by omega
    exact hd
  · exact Memory.read32_eq_of_bytes fun b hb => hunits 1 b (by decide) hb fun j hj hj2 => by omega

/-- The control word 0xC400 enables a channel of two words: it is active at once, with its working copies latched. -/
theorem DmaChannel.withControl_documented {p : Params} {ch : Fin 4} {c : DmaChannel} (he : c.ctrl.enable = false)
    (hn : c.cnt = 2) (hmask : p.dmaCountMask[ch] &&& 2 = 2) :
    c.withControl p ch (DmaControl.ofWord 0xC400) =
      { c with ctrl := DmaControl.ofWord 0xC400, src := c.sad, dst := c.dad, remaining := 2, active := true } := by
  have hcount : dmaCount p ch c = 2 := by
    rw [dmaCount, hn, BitVec.and_comm, hmask]
    rfl
  have hon : (DmaControl.ofWord 0xC400).enable = true := rfl
  have hnow : (DmaControl.ofWord 0xC400).trigger = .immediate := rfl
  simp only [DmaChannel.withControl_eq, he, hon, hnow, hcount, Bool.not_false, Bool.and_self, if_true,
    beq_self_eq_true, Bool.or_true]

/-- The channel of the documented transfer when its step begins. -/
def DmaChannel.documented (c : DmaChannel) : DmaChannel :=
  { c with ctrl := DmaControl.ofWord 0xC400, src := c.sad, dst := c.dad, remaining := 2, active := true }

theorem align4_add_four {a : Word} (h : a.toNat % 4 = 0) : align4 (a + 4) = a + 4 := by
  refine align4_of_mod ?_
  change (a.toNat + 4) % 2 ^ 32 % 4 = 0
  omega

theorem DmaChannel.documented_source {c : DmaChannel} (h : c.sad.toNat % 4 = 0) :
    c.documented.source 0 = c.sad ∧ c.documented.source 1 = c.sad + 4 :=
  ⟨(congrArg align4 (BitVec.add_zero c.sad)).trans (align4_of_mod h), align4_add_four h⟩

theorem DmaChannel.documented_dest {c : DmaChannel} (h : c.dad.toNat % 4 = 0) :
    c.documented.dest 0 = c.dad ∧ c.documented.dest 1 = c.dad + 4 :=
  ⟨(congrArg align4 (BitVec.add_zero c.dad)).trans (align4_of_mod h), align4_add_four h⟩

theorem DmaChannel.documented_copies {p : Params} {c : DmaChannel} (hsad : c.sad.toNat % 4 = 0)
    (hdad : c.dad.toNat % 4 = 0) (hr0 : Readable p c.sad) (hr1 : Readable p (c.sad + 4)) (hw0 : InMemory p c.dad)
    (hw1 : InMemory p (c.dad + 4)) (hapart : cellOf p (c.sad + 4) ≠ cellOf p c.dad) : c.documented.Copies p 2 := by
  obtain ⟨hs0, hs1⟩ := c.documented_source hsad
  obtain ⟨hd0, hd1⟩ := c.documented_dest hdad
  refine ⟨fun k hk => ?_, fun k hk => ?_, fun j k hjk hk => ?_⟩
  · interval_cases k
    · exact hs0 ▸ hr0
    · exact hs1 ▸ hr1
  · interval_cases k
    · exact hd0 ▸ hw0
    · exact hd1 ▸ hw1
  · obtain ⟨rfl, rfl⟩ : j = 0 ∧ k = 1 := by omega
    rw [hd0, hs1]
    exact hapart.symm

/-- Settles O58: the control store, the triggers and the step one by one; the documented transfer is the control store
of 0xC400 and then the step of two words. -/
theorem dmaTransfer : Obligations.DmaTransfer := by
  refine ⟨Devices.storeDmaControl_result, fun p d ch fifo line =>
    ⟨d.armAll_dma .vblank ch, d.signalHblank_dma p line ch, d.fifoRefresh_dma fifo ch⟩, ?step, ?documented⟩
  case step =>
    rintro s t ch c c' u sa da hc ht hc' rfl hsa hda hm hr hw hapart
    obtain rfl : sa = c.source := funext hsa
    obtain rfl : da = c.dest := funext hda
    obtain ⟨⟨hunits, hother⟩, rfl, hpending, hkept⟩ := State.dmaStep_result hc ht hc' hm ⟨hr, hw, hapart⟩
    obtain ⟨hactive, hsrc, hsad, hdad, hcnt, honce, hrepeats, hdst⟩ :=
      (c.moved c.remaining).completed_result s.params ch
    refine ⟨hunits, hother, hactive, hsrc, hsad, hdad, hcnt, honce, hrepeats, hdst, fun hi => ?_, fun hi => ?_, hkept⟩
    · rw [hpending, if_pos hi]
    · rw [hpending, hi]
      rfl
  case documented =>
    rintro s t ch d he hn hmask hm hsad hdad hr0 hr1 hw0 hw1 hapart hdest rfl ht
    have hchannel : (s.dev.storeDmaControl s.params ch 0xFFFF 0xC400).dma[ch] = (s.dev.dma[ch]).documented :=
      (Devices.storeDmaControl_channel ..).trans (DmaChannel.withControl_documented he hn hmask)
    have hcopies := DmaChannel.documented_copies hsad hdad hr0 hr1 hw0 hw1 hapart
    obtain ⟨hcopied, hcompleted, hpending, -⟩ := State.dmaStep_result
      (s := s.withDev (s.dev.storeDmaControl s.params ch 0xFFFF 0xC400)) hchannel.symm ht rfl hm hcopies
    obtain ⟨hs0, hs1⟩ := (s.dev.dma[ch]).documented_source hsad
    obtain ⟨hd0, hd1⟩ := (s.dev.dma[ch]).documented_dest hdad
    rw [← hd1, ← hd0] at hdest
    obtain ⟨hfirst, hsecond⟩ := hcopied.two_words hdest
    simp only [hs0, hs1, hd0, hd1] at hfirst hsecond
    obtain ⟨hactive, -, -, -, -, honce, -⟩ := ((s.dev.dma[ch]).documented.moved 2).completed_result s.params ch
    have hword : ({ DmaControl.ofWord 0xC400 with enable := false } : DmaControl).toWord = 0x4400 := by decide
    refine ⟨congrArg DmaChannel.active hchannel, hfirst, hsecond, hcompleted ▸ hactive,
      hcompleted ▸ (congrArg DmaControl.toWord (honce rfl)).trans hword, ?_⟩
    have hirq : (s.dev.dma[ch]).documented.ctrl.irq = true := rfl
    rw [hpending, if_pos hirq]
    exact getLsbD_raised _ ⟨8 + ch.val, by omega⟩

end Sys2Proof.Machine
end
